-- ==== Sys2Proof/Word.lean ====
section
/-! DEFINITION. The two word sizes of the block: 8-bit bytes (wire fields, operands, cursors, memory cells)
and 16-bit words (commands, responses, checksum accumulators). Spec: 00_scope.md R8, R11. -/

namespace Sys2Proof

/-- A byte: every wire field, memory cell, length and cursor (00_scope.md R8). -/
abbrev Byte := BitVec 8

/-- A 16-bit word: a command word, a response word or a checksum accumulator (00_scope.md R8). -/
abbrev Word := BitVec 16

end Sys2Proof
end

