-- ==== Sys2Proof/Config.lean ====
section
/-! DEFINITION. What is fixed when a block is built (00_scope.md R7) and the values the spec leaves open.
Each open value is a constant with no body, so nothing can be proved of it that is not true of every value. -/

namespace Sys2Proof

/-- `CHK_VARIANT` (00_scope.md R7): the XOR or the additive checksum. -/
inductive ChkVariant where
  | xor
  | add
  deriving DecidableEq, Repr, Inhabited

/-- `RX_TOPOLOGY` (00_scope.md R7): the checksum is checked at the end marker (DEFERRED) or when the
checksum byte arrives (EARLY). -/
inductive RxTopology where
  | deferred
  | early
  deriving DecidableEq, Repr, Inhabited

/-- The three build-time parameters (00_scope.md R7). `maxPayload` has 8 bits because the spec gives it the
range 0 to 255. -/
structure Params where
  maxPayload : Byte
  chk        : ChkVariant
  topology   : RxTopology
  deriving DecidableEq, Repr, Inhabited

/-- Which of the two channel instances next to a block (20_memory.md R60): `tx` carries the framer's bytes
out, `rx` brings bytes to the parser. -/
inductive ChannelId where
  | tx
  | rx
  deriving DecidableEq, Repr

/-- The parameters the block was built with: OPEN in the spec (92_eei_decisions.md D21, D22), so a free value.
DESIGN CHOICE, safe (log 1). -/
opaque Config.params : Params

/-- What the TXMEM cell at an address holds before the host has written it: the spec gives no value
(20_memory.md R51, 10_state.md R38). DESIGN CHOICE, safe (log 3). -/
opaque Config.txmemCell : Nat → Byte

/-- What the RXBUF cell at an address holds after the given reset and before RX_BYTE has written it:
"unspecified (any value)" (10_state.md R38, 70_reset_and_hazards.md R240). The first argument numbers the
resets, so that each reset draws new values. DESIGN CHOICE, safe (log 4). From `MAX_PAYLOAD` up, where RXBUF has
no cell, what a read gives in a loaded state (log 9). -/
opaque Config.rxbufCell : Nat → Nat → Byte

/-- What the HOSTOUT cell at an address holds before RX_TAKE has written it: the spec gives no value
(20_memory.md R51, 10_state.md R38). DESIGN CHOICE, safe (log 5). -/
opaque Config.hostoutCell : Nat → Byte

/-- What a channel's slot holds when the link starts: "`slot` is unspecified" (20_memory.md R60).
DESIGN CHOICE, safe (log 6). -/
opaque Config.slotInit : ChannelId → Byte

end Sys2Proof
end

