-- ==== Sys2Proof/Machine/State.lean ====
section
/-! DEFINITION. The machine's state as plain data: the block's registers and memory, the host's memories and
the channels that take part in commands, and what passes between host and block. Spec: 10_state.md,
20_memory.md R50 and R60, 70_reset_and_hazards.md R240 and R251. -/

namespace Sys2Proof.Machine

/-- `tx_state` (10_state.md R22). Code 7 is never held (30_encoding.md R86), so it is not representable (log 11). -/
inductive TxState where
  | idle
  | sendStart
  | sendLength
  | sendData
  | sendChecksum
  | sendEnd
  | done
  deriving DecidableEq, Repr

/-- `rx_state` (10_state.md R26). Code 7 is never held (30_encoding.md R85), so it is not representable (log 11). -/
inductive RxState where
  | waitStart
  | readLength
  | readData
  | readChecksum
  | waitEnd
  | ready
  | error
  deriving DecidableEq, Repr

/-- The causes of 60_exceptions.md R210. Codes 5 to 7 are never produced, so they are not representable. -/
inductive Cause where
  | none
  | lengthOverflow
  | bufferOverrun
  | checksumMismatch
  | framingError
  deriving DecidableEq, Repr

/-- A byte memory: the cells that were written, in strictly rising addresses. An address that is not listed
holds no value of its own; each space's reader says what it reads as (Machine/Ops.lean). -/
abbrev Memory := List Host.Cell

/-- The canonical form: addresses strictly rising. No entry can equal what an unlisted address reads as,
since an unlisted address has no value. -/
abbrev Memory.wf (m : Memory) : Prop := m.Pairwise fun c d => c.1 < d.1

/-- A channel instance, "two fields: `slot`, 8 bits, and `full`, 1 bit" (20_memory.md R60). -/
structure Channel where
  slot : Byte
  full : Bool
  deriving DecidableEq, Repr

/-- What the world at the other side of a channel does to it (20_memory.md R61, R62, R64). -/
inductive LinkEvent where
  /-- The far end's producer, or noise, offers a byte by `try_put` (R61, R64 "lets arbitrary bytes appear"). -/
  | put (b : Byte)
  /-- The far end's consumer takes the byte by `try_get` (R62). -/
  | get
  /-- The link loses the byte in flight (R64). -/
  | lose
  /-- The link changes the byte in flight to another (R64). -/
  | change (b : Byte)
  deriving DecidableEq, Repr

/-- One thing the host or the environment does, in the single order of 20_memory.md R57. -/
inductive HostAction where
  /-- Issue one command word (00_scope.md R9, 30_encoding.md R80). -/
  | command (w : Word)
  /-- Write a byte to a TXMEM cell between commands (20_memory.md R50, R57). -/
  | writeTx (a b : Byte)
  /-- Assert the block's reset input (70_reset_and_hazards.md R240). -/
  | resetInput
  /-- Move one byte from the framer to its channel, if the channel is free (20_memory.md R65). -/
  | moveOut
  /-- Move one byte from the parser's channel, or the byte held back, to the parser (20_memory.md R65). -/
  | moveIn
  /-- Something happens to a channel at its other side (20_memory.md R61, R62, R64). -/
  | link (c : ChannelId) (e : LinkEvent)
  deriving DecidableEq, Repr

/-- One block with its host and channels; another instance is another value (log 12). -/
structure State where
  /-- The build-time parameters (00_scope.md R7). -/
  params    : Params
  /-- `tx_state` (10_state.md R22). -/
  txState   : TxState
  /-- `tx_len` (10_state.md R23). -/
  txLen     : Byte
  /-- `tx_cursor` (10_state.md R24). -/
  txCursor  : Byte
  /-- `tx_acc` (10_state.md R25). -/
  txAcc     : Word
  /-- `rx_state` (10_state.md R26). -/
  rxState   : RxState
  /-- `rx_len` (10_state.md R27). -/
  rxLen     : Byte
  /-- `rx_cursor` (10_state.md R28). -/
  rxCursor  : Byte
  /-- `rx_acc` (10_state.md R29). -/
  rxAcc     : Word
  /-- `rx_claimed` (10_state.md R30). -/
  rxClaimed : Byte
  /-- `RXBUF` (10_state.md R31). -/
  rxbuf     : Memory
  /-- `last_error` (10_state.md R32). -/
  lastError : Cause
  /-- `TXMEM`, the host's (20_memory.md R50). -/
  txmem     : Memory
  /-- `HOSTOUT`, the host's (20_memory.md R50). -/
  hostout   : Memory
  /-- The channel the framer's bytes go to (20_memory.md R60, R65). -/
  txChan    : Channel
  /-- The channel the parser's bytes come from (20_memory.md R60, R65). -/
  rxChan    : Channel
  /-- The byte the host keeps because RX_BYTE did not accept it (20_memory.md R65; log 7). -/
  held      : Option Byte
  /-- What the host and the environment will do next, oldest first (70_reset_and_hazards.md R251; log 2). -/
  pending   : List HostAction
  /-- Every response word so far, newest first (70_reset_and_hazards.md R251; log 8). -/
  responses : List Word
  /-- The model's own: the number of resets since power-on, which numbers the free values of RXBUF (log 4). -/
  draws     : Nat
  deriving DecidableEq, Repr

/-- Why a step ends in a fault: the kinds of 60_exceptions.md R222. Each records the command word (60_exceptions.md R222, R223). -/
inductive Fault where
  /-- PRECONDITION, raised by TX_BEGIN when `len > MAX_PAYLOAD` (41_transmit.md R120). Safe: the source gives
  the hardware no behaviour. -/
  | precondition (word : Word)
  /-- ILLEGAL_CMD, raised by `step` on a word that spells no command (30_encoding.md R83). Safe. -/
  | illegalCmd (word : Word)
  /-- INVARIANT, raised by TX_STEP in `SendData` when `tx_cursor >= tx_len` (41_transmit.md R125). Safe. -/
  | invariant (word : Word)
  deriving DecidableEq, Repr

/-- Why a step is refused. -/
inductive Refusal where
  /-- The command has no meaning in this model; raised by no arm of `exec`. Safe. -/
  | notModelled (mnemonic : String)
  deriving DecidableEq, Repr

/-- The machine right after power-on reset (10_state.md R38, 70_reset_and_hazards.md R240): the registers hold
the values of R38, no memory cell is listed, the channels are empty (R60) and nothing is pending. DESIGN
CHOICE, safe: the parameters and the slots are free values (log 1, log 6). -/
def State.reset : State where
  params := Config.params
  txState := .idle
  txLen := 0
  txCursor := 0
  txAcc := 0
  rxState := .waitStart
  rxLen := 0
  rxCursor := 0
  rxAcc := 0
  rxClaimed := 0
  rxbuf := []
  lastError := .none
  txmem := []
  hostout := []
  txChan := { slot := Config.slotInit .tx, full := false }
  rxChan := { slot := Config.slotInit .rx, full := false }
  held := none
  pending := []
  responses := []
  draws := 0

end Sys2Proof.Machine
end

