-- ==== Sys2Proof/Machine/Channel.lean ====
section
/-! DEFINITION. The single-slot channel and the unreliable link under it, the environment model of
20_memory.md R60 to R64. -/

namespace Sys2Proof.Machine

/-- `try_put(b)` (20_memory.md R61): the channel after it, and whether the byte was accepted. -/
def Channel.tryPut (c : Channel) (b : Byte) : Channel × Bool :=
  if c.full then (c, false) else ({ slot := b, full := true }, true)

/-- `try_get()` (20_memory.md R62): the channel after it, and the byte if there was one. -/
def Channel.tryGet (c : Channel) : Channel × Option Byte :=
  if c.full then ({ c with full := false }, some c.slot) else (c, none)

/-- What the far end or the link does to a channel (20_memory.md R61, R62, R64). Losing or changing a byte
acts on the byte in flight, and does nothing when there is none. -/
def Channel.linked (c : Channel) : LinkEvent → Channel
  | .put b => (c.tryPut b).1
  | .get => c.tryGet.1
  | .lose => { c with full := false }
  | .change b => if c.full then { c with slot := b } else c

/-- The state after something happened to one of its channels at the other side. -/
def linkState (c : ChannelId) (e : LinkEvent) (s : State) : State :=
  match c with
  | .tx => { s with txChan := s.txChan.linked e }
  | .rx => { s with rxChan := s.rxChan.linked e }

end Sys2Proof.Machine
end

