-- ==== Sys2Proof/Machine/Flags.lean ====
section
/-! DEFINITION. The codes of 30_encoding.md R85, R86, R91 and 60_exceptions.md R210, and every flag a command
computes, laid out in its response word (10_state.md R33, 30_encoding.md R87 to R94). -/

namespace Sys2Proof.Machine

/-- `rx_state` codes (30_encoding.md R85). -/
def RxState.code : RxState → BitVec 3
  | .waitStart => 0
  | .readLength => 1
  | .readData => 2
  | .readChecksum => 3
  | .waitEnd => 4
  | .ready => 5
  | .error => 6

/-- `tx_state` codes (30_encoding.md R86). -/
def TxState.code : TxState → BitVec 3
  | .idle => 0
  | .sendStart => 1
  | .sendLength => 2
  | .sendData => 3
  | .sendChecksum => 4
  | .sendEnd => 5
  | .done => 6

/-- Cause codes (60_exceptions.md R210). -/
def Cause.code : Cause → BitVec 3
  | .none => 0
  | .lengthOverflow => 1
  | .bufferOverrun => 2
  | .checksumMismatch => 3
  | .framingError => 4

/-- `sig_of` (42_receive.md R160), in the codes of 30_encoding.md R91: 1 COMPLETE, 2 ERROR, 0 ASSEMBLING. -/
def sigOf : RxState → BitVec 2
  | .ready => 1
  | .error => 2
  | .waitStart => 0
  | .readLength => 0
  | .readData => 0
  | .readChecksum => 0
  | .waitEnd => 0

/-- `desync`: `rx_state` is `WaitStart` or `Error` (43_collect_control.md R191). -/
def RxState.desync : RxState → Bool
  | .waitStart => true
  | .readLength => false
  | .readData => false
  | .readChecksum => false
  | .waitEnd => false
  | .ready => false
  | .error => true

/-- `tx_busy`: `tx_state` is one of `SendStart` to `SendEnd` (43_collect_control.md R191). -/
def TxState.busy : TxState → Bool
  | .idle => false
  | .sendStart => true
  | .sendLength => true
  | .sendData => true
  | .sendChecksum => true
  | .sendEnd => true
  | .done => false

/-- TX_BEGIN response: bit 0 `accepted` (30_encoding.md R88). -/
def txBeginResponse (accepted : Bool) : Word := 0#15 ++ BitVec.ofBool accepted

/-- TX_STEP response: bits 7:0 `byte`, bit 8 `valid` (30_encoding.md R89). -/
def txStepResponse : Option Byte → Word
  | some byte => 0#7 ++ 1#1 ++ byte
  | none => 0

/-- RX_BYTE response `{0x00, cause, resync, discarded, sig, accepted}`, `sig` computed from `rx_state` after
the command (42_receive.md R150, R160; 30_encoding.md R90). -/
def rxByteResponse (accepted : Bool) (after : RxState) (discarded resync : Bool) (cause : Cause) : Word :=
  0#8 ++ cause.code ++ BitVec.ofBool resync ++ BitVec.ofBool discarded ++ sigOf after ++ BitVec.ofBool accepted

/-- RX_TAKE response: bits 7:0 `len`, bit 8 `ok` (30_encoding.md R92). -/
def rxTakeResponse : Option Byte → Word
  | some len => 0#7 ++ 1#1 ++ len
  | none => 0

/-- The STATUS word (30_encoding.md R93, 43_collect_control.md R191). -/
def statusWord (s : State) : Word :=
  0#5 ++ s.lastError.code ++ BitVec.ofBool s.txState.busy ++ s.txState.code ++
    BitVec.ofBool s.rxState.desync ++ s.rxState.code

/-- NOP and RESET responses (30_encoding.md R94). -/
def zeroResponse : Word := 0

/-- The `accepted` bit of an RX_BYTE response, as the host reads it (30_encoding.md R90). -/
def rxAccepted (response : Word) : Bool := response.getLsbD 0

/-- The host's reading of a TX_STEP response: the byte when `valid` is 1, else nothing produced
(30_encoding.md R89). -/
def txProduced (response : Word) : Option Byte :=
  if response.getLsbD 8 then some (response.extractLsb' 0 8) else none

end Sys2Proof.Machine
end

