-- ==== Sys2Proof/Machine/Checksum.lean ====
section
/-! DEFINITION. The two marker bytes (30_encoding.md R71, R72) and the checksum calculator (40_checksum.md R100
to R106): pure functions of their inputs (R107), for both variants. -/

namespace Sys2Proof.Machine

/-- STX, the start marker (30_encoding.md R71). -/
def stx : Byte := 0x02

/-- ETX, the end marker (30_encoding.md R72). -/
def etx : Byte := 0x03

/-- The start value of an accumulator (40_checksum.md R101, R103). -/
def chkSeed (v : ChkVariant) (len : Byte) : Word :=
  match v with
  | .xor => (stx ^^^ len).setWidth 16
  | .add => len.setWidth 16

/-- One payload byte taken into an accumulator (40_checksum.md R102, R104). -/
def chkFold (v : ChkVariant) (acc : Word) (b : Byte) : Word :=
  match v with
  | .xor => acc ^^^ b.setWidth 16
  | .add => acc + b.setWidth 16

/-- The checksum byte of an accumulator, `acc[7:0]` (40_checksum.md R105). -/
def chkFinal (acc : Word) : Byte := acc.extractLsb' 0 8

/-- The accumulator after a length and data bytes, the loop of 40_checksum.md R106. -/
def chkAcc (v : ChkVariant) (len : Byte) (data : List Byte) : Word :=
  data.foldl (chkFold v) (chkSeed v len)

/-- `checksum(n, d)` (40_checksum.md R106). -/
def checksum (v : ChkVariant) (len : Byte) (data : List Byte) : Byte :=
  chkFinal (chkAcc v len data)

end Sys2Proof.Machine
end

