-- ==== Sys2Proof/Machine/Ops.lean ====
section
/-! DEFINITION. The named operations over memory and registers: reading and writing a space (20_memory.md R51),
returning a response word, entering `Error` and leaving it (60_exceptions.md R217, R218), the session reset of
a collection (43_collect_control.md R190) and the block's reset (70_reset_and_hazards.md R240). -/

namespace Sys2Proof.Machine

/-- The byte a memory lists for an address. -/
def Memory.read : Memory → Nat → Option Byte
  | [], _ => none
  | (a', b) :: m, a => if a = a' then some b else Memory.read m a

/-- The memory with one cell set (20_memory.md R51): every other cell stays, and addresses stay rising. -/
def Memory.write : Memory → Nat → Byte → Memory
  | [], a, b => [(a, b)]
  | (a', b') :: m, a, b =>
    if a < a' then (a, b) :: (a', b') :: m
    else if a = a' then (a, b) :: m
    else (a', b') :: Memory.write m a b

/-- `MemRead(TXMEM, a, 1)` (20_memory.md R51): a cell the host has not written reads as a free value (log 3). -/
def readTx (s : State) (a : Nat) : Byte := (s.txmem.read a).getD (Config.txmemCell a)

/-- `MemRead(RXBUF, a, 1)` (20_memory.md R51): a cell not written since the last reset reads as a free value of
that reset (log 4). RXBUF has `MAX_PAYLOAD` cells (R50). A read past them, which only RX_TAKE in a loaded state
makes, gives a free value too. DESIGN CHOICE, safe (log 9). -/
def readRx (s : State) (a : Nat) : Byte :=
  if a < s.params.maxPayload.toNat then (s.rxbuf.read a).getD (Config.rxbufCell s.draws a)
  else Config.rxbufCell s.draws a

/-- What the host reads at a HOSTOUT cell (20_memory.md R50): a cell not written reads as a free value (log 5). -/
def readOut (s : State) (a : Nat) : Byte := (s.hostout.read a).getD (Config.hostoutCell a)

/-- `RXBUF[0..n-1]`, the first `n` bytes of the parser's buffer. -/
def rxBytes (s : State) (n : Nat) : List Byte := (List.range n).map (readRx s)

/-- `TXMEM[0..n-1]`, the first `n` bytes of the payload space. -/
def txBytes (s : State) (n : Nat) : List Byte := (List.range n).map (readTx s)

/-- The loop of RX_TAKE (43_collect_control.md R190): `HOSTOUT` after the first `n` bytes of RXBUF were
copied to it. -/
def copyOut (s : State) : Nat → Memory
  | 0 => s.hostout
  | n + 1 => (copyOut s n).write n (readRx s n)

/-- `return resp` (00_scope.md R12): the response word is recorded, newest first (log 8). -/
def respond (w : Word) (s : State) : State := { s with responses := w :: s.responses }

/-- `enter_error(cause)` (60_exceptions.md R217): "Nothing else changes". The response's cause field is the
caller's. -/
def enterError (cause : Cause) (s : State) : State := { s with rxState := .error, lastError := cause }

/-- The way out of `Error` on a start marker (60_exceptions.md R218, 42_receive.md R159): "Nothing is restored
on the way out". -/
def leaveError (s : State) : State := { s with rxState := .readLength }

/-- The receive session's reset by a successful RX_TAKE (43_collect_control.md R190): RXBUF and `last_error`
stay. -/
def resetReceive (s : State) : State :=
  { s with rxState := .waitStart, rxLen := 0, rxCursor := 0, rxAcc := 0, rxClaimed := 0 }

/-- The block's reset (70_reset_and_hazards.md R240), by power-on, the reset input or RESET. TXMEM, HOSTOUT and
the channels stay; RXBUF takes new unspecified values (log 4). -/
def resetBlock (s : State) : State :=
  { s with
    txState := .idle, txLen := 0, txCursor := 0, txAcc := 0
    rxState := .waitStart, rxLen := 0, rxCursor := 0, rxAcc := 0, rxClaimed := 0
    lastError := .none, rxbuf := [], draws := s.draws + 1 }

/-- The host writes one TXMEM cell between commands (20_memory.md R50, R57). -/
def hostWriteTx (a b : Byte) (s : State) : State := { s with txmem := s.txmem.write a.toNat b }

/-- The host puts an action before everything else it has pending. -/
def actNext (a : HostAction) (s : State) : State := { s with pending := a :: s.pending }

end Sys2Proof.Machine
end

