-- ==== Sys2Proof/Machine/Collect.lean ====
section
/-! DEFINITION. Frame collection: RX_TAKE (43_collect_control.md R190). -/

namespace Sys2Proof.Machine

/-- A collection that returns nothing and changes nothing: response `0x0000` (43_collect_control.md R190). -/
def takeNothing (s : State) : Host.Outcome State Fault Refusal := .next (respond (rxTakeResponse none) s)

/-- A successful collection (43_collect_control.md R190): the payload is copied and the session reset, in one
atomic step (20_memory.md R56). -/
def takeFrame (s : State) : State := { resetReceive s with hostout := copyOut s s.rxLen.toNat }

/-- RX_TAKE (43_collect_control.md R190): "Exceptions: none". A frame longer than RXBUF exists only in a loaded
state, which the rules still give a meaning (10_state.md R37): it is collected like any other (log 9). -/
def execRxTake (cap : Byte) (s : State) : Host.Outcome State Fault Refusal :=
  match s.rxState with
  | .ready =>
    if cap < s.rxLen then takeNothing s
    else .next (respond (rxTakeResponse (some s.rxLen)) (takeFrame s))
  | .waitStart => takeNothing s
  | .readLength => takeNothing s
  | .readData => takeNothing s
  | .readChecksum => takeNothing s
  | .waitEnd => takeNothing s
  | .error => takeNothing s

end Sys2Proof.Machine
end

