-- ==== Sys2Proof/Machine/Control.lean ====
section
/-! DEFINITION. The control commands STATUS, NOP and RESET (43_collect_control.md R191 to R193). -/

namespace Sys2Proof.Machine

/-- NOP (43_collect_control.md R192): "No register or memory changes". -/
def execNop (s : State) : Host.Outcome State Fault Refusal := .next (respond zeroResponse s)

/-- STATUS (43_collect_control.md R191): "No register changes". -/
def execStatus (s : State) : Host.Outcome State Fault Refusal := .next (respond (statusWord s) s)

/-- RESET (43_collect_control.md R193): the reset of 70_reset_and_hazards.md R240. -/
def execReset (s : State) : Host.Outcome State Fault Refusal := .next (respond zeroResponse (resetBlock s))

end Sys2Proof.Machine
end

