-- ==== Sys2Proof/Machine/Receive.lean ====
section
/-! DEFINITION. The receive parser and resync detector: RX_BYTE (42_receive.md R150 to R161). Each arm gives the
state after the byte with the outputs `discarded`, `resync` and `cause` it sets. -/

namespace Sys2Proof.Machine

/-- What an arm of RX_BYTE gives: the state, and the outputs of 30_encoding.md R90 that are not a function of
it. -/
structure RxOut where
  state     : State
  discarded : Bool
  resync    : Bool
  cause     : Cause
  deriving DecidableEq, Repr

/-- A byte that changes the session and sets no output. -/
def rxPlain (s : State) : RxOut := { state := s, discarded := false, resync := false, cause := .none }

/-- A noise byte: discarded, nothing changes (42_receive.md R151, R159; 60_exceptions.md R215). -/
def rxDiscard (s : State) : RxOut := { state := s, discarded := true, resync := false, cause := .none }

/-- A byte that shows an error (60_exceptions.md R217). -/
def rxFail (cause : Cause) (s : State) : RxOut :=
  { state := enterError cause s, discarded := false, resync := false, cause := cause }

/-- RX_BYTE in `WaitStart` (42_receive.md R151). -/
def rxWaitStart (b : Byte) (s : State) : RxOut :=
  if b = stx then rxPlain { s with rxState := .readLength } else rxDiscard s

/-- RX_BYTE in `ReadLength` (42_receive.md R152). -/
def rxReadLength (b : Byte) (s : State) : RxOut :=
  if s.params.maxPayload < b then rxFail .lengthOverflow s
  else
    rxPlain { s with
      rxLen := b
      rxCursor := 0
      rxAcc := chkSeed s.params.chk b
      rxState := if 0 < b then .readData else .readChecksum }

/-- RX_BYTE in `ReadData` (42_receive.md R153): the guard comes before the store (60_exceptions.md R220). -/
def rxReadData (b : Byte) (s : State) : RxOut :=
  if s.rxLen ≤ s.rxCursor ∨ s.params.maxPayload ≤ s.rxCursor then rxFail .bufferOverrun s
  else
    rxPlain { s with
      rxbuf := s.rxbuf.write s.rxCursor.toNat b
      rxAcc := chkFold s.params.chk s.rxAcc b
      rxCursor := s.rxCursor + 1
      rxState := if s.rxCursor + 1 = s.rxLen then .readChecksum else .readData }

/-- RX_BYTE in `ReadChecksum`, DEFERRED (42_receive.md R154). -/
def rxReadChecksumDeferred (b : Byte) (s : State) : RxOut :=
  rxPlain { s with rxClaimed := b, rxState := .waitEnd }

/-- RX_BYTE in `ReadChecksum`, EARLY (42_receive.md R155): `rx_claimed` is written on both paths. -/
def rxReadChecksumEarly (b : Byte) (s : State) : RxOut :=
  if b = chkFinal s.rxAcc then rxPlain { s with rxClaimed := b, rxState := .waitEnd }
  else rxFail .checksumMismatch { s with rxClaimed := b }

/-- RX_BYTE in `ReadChecksum` (42_receive.md R150). -/
def rxReadChecksum (b : Byte) (s : State) : RxOut :=
  match s.params.topology with
  | .deferred => rxReadChecksumDeferred b s
  | .early => rxReadChecksumEarly b s

/-- RX_BYTE in `WaitEnd`, DEFERRED (42_receive.md R156): the end marker is checked first. -/
def rxWaitEndDeferred (b : Byte) (s : State) : RxOut :=
  if b ≠ etx then rxFail .framingError s
  else if s.rxClaimed ≠ chkFinal s.rxAcc then rxFail .checksumMismatch s
  else rxPlain { s with rxState := .ready }

/-- RX_BYTE in `WaitEnd`, EARLY (42_receive.md R157). -/
def rxWaitEndEarly (b : Byte) (s : State) : RxOut :=
  if b ≠ etx then rxFail .framingError s else rxPlain { s with rxState := .ready }

/-- RX_BYTE in `WaitEnd` (42_receive.md R150). -/
def rxWaitEnd (b : Byte) (s : State) : RxOut :=
  match s.params.topology with
  | .deferred => rxWaitEndDeferred b s
  | .early => rxWaitEndEarly b s

/-- RX_BYTE in `Error`, the resync detector (42_receive.md R159). -/
def rxResync (b : Byte) (s : State) : RxOut :=
  if b = stx then { state := leaveError s, discarded := false, resync := true, cause := .none }
  else rxDiscard s

/-- The arm the old `rx_state` selects (42_receive.md R150); none in `Ready`, where the byte is not consumed
(R158). -/
def rxArm (b : Byte) (s : State) : Option RxOut :=
  match s.rxState with
  | .waitStart => some (rxWaitStart b s)
  | .readLength => some (rxReadLength b s)
  | .readData => some (rxReadData b s)
  | .readChecksum => some (rxReadChecksum b s)
  | .waitEnd => some (rxWaitEnd b s)
  | .ready => none
  | .error => some (rxResync b s)

/-- RX_BYTE (42_receive.md R150). -/
def execRxByte (b : Byte) (s : State) : Host.Outcome State Fault Refusal :=
  match rxArm b s with
  | some o => .next (respond (rxByteResponse true o.state.rxState o.discarded o.resync o.cause) o.state)
  | none => .next (respond (rxByteResponse false s.rxState false false .none) s)

end Sys2Proof.Machine
end

