-- ==== Sys2Proof/Machine/Operands.lean ====
section
/-! DEFINITION. The fields of a command word (30_encoding.md R80) and the operand forms a command's `arg`
field has (R81, R82). -/

namespace Sys2Proof.Machine

/-- Bits 15:12, the operation (30_encoding.md R80). -/
def wordOp (w : Word) : BitVec 4 := w.extractLsb' 12 4

/-- Bits 11:8, reserved (30_encoding.md R80). -/
def wordRsv (w : Word) : BitVec 4 := w.extractLsb' 8 4

/-- Bits 7:0, the operand byte (30_encoding.md R80). -/
def wordArg (w : Word) : Byte := w.extractLsb' 0 8

/-- The operand of TX_BEGIN, RX_BYTE and RX_TAKE: "`len = arg`, `b = arg`, `cap = arg`" (30_encoding.md R82). -/
def argByte (arg : Byte) : Byte := arg

/-- The operand of TX_STEP: "`out_ready = arg[0]`" (30_encoding.md R82). -/
def argGate (arg : Byte) : Bool := arg.getLsbD 0

/-- The test of a command without operand: `arg` must be `0x00` (30_encoding.md R81). -/
def argIsZero (arg : Byte) : Bool := arg == 0

/-- The test of TX_STEP: bits 7:1 of `arg` must be `0` (30_encoding.md R81). -/
def argIsGate (arg : Byte) : Bool := arg.extractLsb' 1 7 == 0

/-- The word `{op, 0b0000, arg}` (30_encoding.md R95). -/
def packWord (op : BitVec 4) (arg : Byte) : Word := op ++ 0#4 ++ arg

/-- The `arg` field of TX_STEP for a readiness gate (30_encoding.md R81). -/
def gateArg (outReady : Bool) : Byte := 0#7 ++ BitVec.ofBool outReady

end Sys2Proof.Machine
end

