-- ==== Sys2Proof/Syntax.lean ====
section
/-! DEFINITION. The seven commands of spec/opcode_table.json (30_encoding.md R81), one constructor each. -/

namespace Sys2Proof

/-- One command of FRAMER-CMD v1. The operands have the width of their field, so no constructor can carry an
operand the command word cannot (30_encoding.md R82). -/
inductive Instr where
  /-- NOP (43_collect_control.md R192). -/
  | nop
  /-- TX_BEGIN `len`: start a send (41_transmit.md R120). -/
  | txBegin (len : Byte)
  /-- TX_STEP `out_ready`: produce the next wire byte (41_transmit.md R121). -/
  | txStep (outReady : Bool)
  /-- RX_BYTE `b`: consume one wire byte (42_receive.md R150). -/
  | rxByte (b : Byte)
  /-- RX_TAKE `cap`: collect a received frame (43_collect_control.md R190). -/
  | rxTake (cap : Byte)
  /-- STATUS (43_collect_control.md R191). -/
  | status
  /-- RESET (43_collect_control.md R193). -/
  | reset
  deriving DecidableEq, Repr

end Sys2Proof
end

