-- ==== Sys2Proof/Decode.lean ====
section
/-! DEFINITION. Decoding a command word, total and rejecting by name (30_encoding.md R80 to R84), and the
encoder. The words are exchanged whole (20_memory.md R53), so the decoder takes a word. -/

namespace Sys2Proof

open Machine

/-- Why a command word spells no command (30_encoding.md R83). -/
inductive Reject where
  /-- `op` is `0x7`..`0xF`. -/
  | reservedOp
  /-- `rsv` is not `0`. -/
  | reservedField
  /-- `arg` has a bit set that 30_encoding.md R81 says must be `0`. -/
  | reservedArg
  deriving DecidableEq, Repr

/-- The command with the given `op` and `arg` fields, by the opcode map of 30_encoding.md R81. -/
def decodeFields (op : BitVec 4) (arg : Byte) : Except Reject Instr :=
  match op.toNat with
  | 0x0 => if argIsZero arg then .ok .nop else .error .reservedArg
  | 0x1 => .ok (.txBegin (argByte arg))
  | 0x2 => if argIsGate arg then .ok (.txStep (argGate arg)) else .error .reservedArg
  | 0x3 => .ok (.rxByte (argByte arg))
  | 0x4 => .ok (.rxTake (argByte arg))
  | 0x5 => if argIsZero arg then .ok .status else .error .reservedArg
  | 0x6 => if argIsZero arg then .ok .reset else .error .reservedArg
  | _ => .error .reservedOp

/-- The command a word spells, or the part of 30_encoding.md R83 that says it spells none. -/
def decode (w : Word) : Except Reject Instr :=
  if wordRsv w = 0 then decodeFields (wordOp w) (wordArg w) else .error .reservedField

/-- The `op` field of a command (30_encoding.md R81). -/
def Instr.op : Instr → BitVec 4
  | .nop => 0x0
  | .txBegin _ => 0x1
  | .txStep _ => 0x2
  | .rxByte _ => 0x3
  | .rxTake _ => 0x4
  | .status => 0x5
  | .reset => 0x6

/-- The `arg` field of a command (30_encoding.md R81). -/
def Instr.arg : Instr → Byte
  | .nop => 0
  | .txBegin len => len
  | .txStep outReady => gateArg outReady
  | .rxByte b => b
  | .rxTake cap => cap
  | .status => 0
  | .reset => 0

/-- The command word of a command (30_encoding.md R80, R81). -/
def encode (i : Instr) : Word := packWord i.op i.arg

/-- The command word whose bits are the low `nbits` bits of `w`, every bit above them `0`. -/
def tableWord (nbits w : Nat) : Word := BitVec.ofNat 16 (w % 2 ^ nbits)

/-- The command this decoder reads from the opcode table's bits (bit 0 the least significant). -/
def decodeTableWord (nbits w : Nat) : Option Instr :=
  match decode (tableWord nbits w) with
  | .ok i => some i
  | .error _ => none

end Sys2Proof
end

