-- ==== Sys2Proof/Machine/Transmit.lean ====
section
/-! DEFINITION. The transmit framer: TX_BEGIN and TX_STEP (41_transmit.md R120 to R128). -/

namespace Sys2Proof.Machine

/-- The register writes of an accepted TX_BEGIN (41_transmit.md R120). -/
def beginSend (len : Byte) (s : State) : State :=
  { s with txLen := len, txCursor := 0, txAcc := chkSeed s.params.chk len, txState := .sendStart }

/-- TX_BEGIN (41_transmit.md R120): the length test comes before the busy test (60_exceptions.md R220). -/
def execTxBegin (len : Byte) (s : State) : Host.Outcome State Fault Refusal :=
  if s.params.maxPayload < len then .fault (.precondition (encode (.txBegin len)))
  else if s.txState.busy then .next (respond (txBeginResponse false) s)
  else .next (respond (txBeginResponse true) (beginSend len s))

/-- TX_STEP in `SendStart`, gate open (41_transmit.md R123). -/
def sendStart (s : State) : State × Byte := ({ s with txState := .sendLength }, stx)

/-- TX_STEP in `SendLength`, gate open (41_transmit.md R124). -/
def sendLength (s : State) : State × Byte :=
  ({ s with txState := if 0 < s.txLen then .sendData else .sendChecksum }, s.txLen)

/-- TX_STEP in `SendData`, gate open, with `tx_cursor < tx_len` (41_transmit.md R125). -/
def sendData (s : State) : State × Byte :=
  let byte := readTx s s.txCursor.toNat
  ({ s with
      txAcc := chkFold s.params.chk s.txAcc byte
      txCursor := s.txCursor + 1
      txState := if s.txCursor + 1 = s.txLen then .sendChecksum else .sendData },
    byte)

/-- TX_STEP in `SendChecksum`, gate open (41_transmit.md R126). -/
def sendChecksum (s : State) : State × Byte := ({ s with txState := .sendEnd }, chkFinal s.txAcc)

/-- TX_STEP in `SendEnd`, gate open (41_transmit.md R127). -/
def sendEnd (s : State) : State × Byte := ({ s with txState := .done }, etx)

/-- The outcome of an arm that produces a byte: response `0x0100 | byte` (41_transmit.md R121). -/
def produce (r : State × Byte) : Host.Outcome State Fault Refusal :=
  .next (respond (txStepResponse (some r.2)) r.1)

/-- The outcome of a TX_STEP that produces no byte: response `0x0000` (41_transmit.md R121). -/
def produceNothing (s : State) : Host.Outcome State Fault Refusal :=
  .next (respond (txStepResponse none) s)

/-- TX_STEP (41_transmit.md R121): `Idle` and `Done` need no gate; every other state tests the gate first. -/
def execTxStep (outReady : Bool) (s : State) : Host.Outcome State Fault Refusal :=
  match s.txState with
  | .idle => produceNothing s
  | .done => produceNothing { s with txState := .idle }
  | .sendStart => if outReady then produce (sendStart s) else produceNothing s
  | .sendLength => if outReady then produce (sendLength s) else produceNothing s
  | .sendData =>
    if outReady then
      if s.txCursor < s.txLen then produce (sendData s)
      else .fault (.invariant (encode (.txStep outReady)))
    else produceNothing s
  | .sendChecksum => if outReady then produce (sendChecksum s) else produceNothing s
  | .sendEnd => if outReady then produce (sendEnd s) else produceNothing s

end Sys2Proof.Machine
end

