-- ==== Sys2Proof/Machine/Dispatch.lean ====
section
/-! DEFINITION. One arm per command: each calls its meaning. -/

namespace Sys2Proof.Machine

def exec (i : Instr) (s : State) : Host.Outcome State Fault Refusal :=
  match i with
  | .nop => Sys2Proof.Machine.execNop s
  | .txBegin len => Sys2Proof.Machine.execTxBegin len s
  | .txStep outReady => Sys2Proof.Machine.execTxStep outReady s
  | .rxByte b => Sys2Proof.Machine.execRxByte b s
  | .rxTake cap => Sys2Proof.Machine.execRxTake cap s
  | .status => Sys2Proof.Machine.execStatus s
  | .reset => Sys2Proof.Machine.execReset s

end Sys2Proof.Machine
end

