-- ==== Sys2Proof/Machine/Host.lean ====
section
/-! DEFINITION. What each pending action of the host does: issuing a command word (00_scope.md R9), writing TXMEM
(20_memory.md R57), asserting reset (70_reset_and_hazards.md R240), and driving the block from the channels
(20_memory.md R65). -/

namespace Sys2Proof.Machine

/-- One command word reaches the block: the command it spells runs, or the step faults ILLEGAL_CMD before
any command's own tests (30_encoding.md R83, 60_exceptions.md R220). -/
def issue (w : Word) (s : State) : Host.Outcome State Fault Refusal :=
  match decode w with
  | .ok i => exec i s
  | .error _ => .fault (.illegalCmd w)

/-- The host delivers the byte of the last response, if there is one, to the framer's channel by `try_put`
(20_memory.md R65). -/
def deliver (s : State) : State :=
  match s.responses with
  | w :: _ =>
    match txProduced w with
    | some b => { s with txChan := (s.txChan.tryPut b).1 }
    | none => s
  | [] => s

/-- Moving a byte out (20_memory.md R65): TX_STEP with `out_ready = 1` only when the channel is free, and then
`try_put` with the byte it returned. DESIGN CHOICE, unsafe: both halves are one step (log 7). -/
def moveOut (s : State) : Host.Outcome State Fault Refusal :=
  if s.txChan.full then .next s
  else
    match exec (.txStep true) s with
    | .next t => .next (deliver t)
    | .fault f => .fault f
    | .refused r => .refused r

/-- The host keeps the byte it offered when the last response says it was not accepted, and else keeps none
(20_memory.md R65). -/
def keep (b : Byte) (s : State) : State :=
  match s.responses with
  | w :: _ => { s with held := if rxAccepted w then none else some b }
  | [] => s

/-- Offering a byte to the parser: RX_BYTE, and the byte is kept when it is not accepted (20_memory.md R65). -/
def offer (b : Byte) (s : State) : Host.Outcome State Fault Refusal :=
  match exec (.rxByte b) s with
  | .next t => .next (keep b t)
  | .fault f => .fault f
  | .refused r => .refused r

/-- Moving a byte in (20_memory.md R65): the byte kept from before is offered again, else the channel's byte is
taken by `try_get` and offered; with neither, the host waits. DESIGN CHOICE, unsafe: one step (log 7). -/
def moveIn (s : State) : Host.Outcome State Fault Refusal :=
  match s.held with
  | some b => offer b s
  | none =>
    match s.rxChan.tryGet with
    | (c, some b) => offer b { s with rxChan := c }
    | (_, none) => .next s

/-- One action of the host or of the environment. -/
def perform (a : HostAction) (s : State) : Host.Outcome State Fault Refusal :=
  match a with
  | .command w => issue w s
  | .writeTx a b => .next (hostWriteTx a b s)
  | .resetInput => .next (resetBlock s)
  | .moveOut => moveOut s
  | .moveIn => moveIn s
  | .link c e => .next (linkState c e s)

/-- What the next step does: the oldest pending action, or nothing, since between commands nothing moves
(00_scope.md R9, 60_exceptions.md R229). -/
def stepPending (s : State) : Host.Outcome State Fault Refusal :=
  match s.pending with
  | [] => .next s
  | a :: rest => perform a { s with pending := rest }

end Sys2Proof.Machine
end

