-- ==== Sys2Proof/Machine/Step.lean ====
section
/-! DEFINITION. One step of the machine (00_scope.md R9, R10), and where it takes its next command from. -/

namespace Sys2Proof.Machine

/-- One step: the host's next pending action is taken, or the block waits (log 2). -/
def step (s : State) : Host.Outcome State Fault Refusal := stepPending s

/-- The state in which the host issues, as its very next action, the command word with the given bits. -/
def State.withFetchWord (s : State) (nbits w : Nat) : State := actNext (.command (tableWord nbits w)) s

end Sys2Proof.Machine
end

