-- ==== Sys2Proof/Assembly.lean ====
section
/-! DEFINITION. The source lines of a host program (30_encoding.md R95) and the pseudo-commands (R96), as
syntax: an operand is the number the programmer wrote, which may be out of range. -/

namespace Sys2Proof

/-- One line of a host program, comments and blank lines removed (30_encoding.md R95, R96). -/
inductive Line where
  | nop
  | status
  | reset
  | txBegin (n : Nat)
  | rxByte (n : Nat)
  | rxTake (n : Nat)
  | txStep (r : Nat)
  /-- `TX_STEP` with no operand (30_encoding.md R96). -/
  | txStepBare
  /-- `RX_FEED b0, ..., bk` (30_encoding.md R96). -/
  | rxFeed (bytes : List Nat)
  /-- `TX_SEND n` (30_encoding.md R96). -/
  | txSend (n : Nat)
  deriving DecidableEq, Repr

/-- Why a line of text is no line of a host program. -/
inductive AsmReject where
  /-- The first word is no mnemonic of 30_encoding.md R95 or R96. -/
  | unknownMnemonic
  /-- An operand is neither a decimal number nor a `0x` hexadecimal one. -/
  | badNumber
  /-- The mnemonic takes another number of operands. -/
  | operandCount
  /-- An operand is outside the range 30_encoding.md R95 gives it. -/
  | operandRange
  deriving DecidableEq, Repr

end Sys2Proof
end

