-- ==== Sys2Proof/WellFormed.lean ====
section
/-! DEFINITION. Which terms of the syntax stand for commands. An `Instr` is well formed by its types; a source
line is well formed when its operands are in the ranges of 30_encoding.md R95 and R96. -/

namespace Sys2Proof

/-- Every `Instr` is well formed: its operands have the widths of the fields of 30_encoding.md R81, and the
bits that must be `0` are no operands. -/
def Instr.wellFormed : Instr → Bool
  | .nop => true
  | .txBegin _ => true
  | .txStep _ => true
  | .rxByte _ => true
  | .rxTake _ => true
  | .status => true
  | .reset => true

/-- The operand ranges of 30_encoding.md R95: a number `0..255`, or `0..1` for TX_STEP. RX_FEED takes at least
one byte (`b0`, R96). -/
def Line.wellFormed : Line → Bool
  | .nop => true
  | .status => true
  | .reset => true
  | .txBegin n => n < 256
  | .rxByte n => n < 256
  | .rxTake n => n < 256
  | .txStep r => r < 2
  | .txStepBare => true
  | .rxFeed bytes => !bytes.isEmpty && bytes.all (· < 256)
  | .txSend n => n < 256

end Sys2Proof
end

