-- ==== Sys2Proof/Machine/Assembler.lean ====
section
/-! DEFINITION. The assembler: what a source line stands for (30_encoding.md R95, R96), and reading a line of
text. Text is a list of characters. -/

namespace Sys2Proof.Machine

/-- The commands a line expands to (30_encoding.md R95, R96), for a line whose operands are in range. -/
def expand : Line → List Instr
  | .nop => [.nop]
  | .status => [.status]
  | .reset => [.reset]
  | .txBegin n => [.txBegin (BitVec.ofNat 8 n)]
  | .rxByte n => [.rxByte (BitVec.ofNat 8 n)]
  | .rxTake n => [.rxTake (BitVec.ofNat 8 n)]
  | .txStep r => [.txStep (r == 1)]
  | .txStepBare => [.txStep true]
  | .rxFeed bytes => bytes.map fun b => .rxByte (BitVec.ofNat 8 b)
  | .txSend n => .txBegin (BitVec.ofNat 8 n) :: List.replicate (n + 4) (.txStep true)

/-- The command words of a line; a line with an operand out of range has none (30_encoding.md R95). -/
def assembleLine (l : Line) : Except AsmReject (List Word) :=
  if l.wellFormed then .ok ((expand l).map encode) else .error .operandRange

/-- A blank: a space, a tab or the end of a line. DESIGN CHOICE, safe (log 10). -/
def isBlank (c : Char) : Bool := c == ' ' || c == '\t' || c == '\r' || c == '\n'

/-- The text without blanks at its two ends. -/
def trimBlanks (cs : List Char) : List Char :=
  ((cs.dropWhile isBlank).reverse.dropWhile isBlank).reverse

/-- The line without its comment: `;` starts a comment to the end of the line (30_encoding.md R95). -/
def stripComment (cs : List Char) : List Char := cs.takeWhile (· != ';')

/-- The value of a digit in base 10 or 16; hexadecimal letters may be capital or small. DESIGN CHOICE, safe
(log 10). -/
def digitValue (base : Nat) (c : Char) : Option Nat :=
  let v :=
    if '0' ≤ c ∧ c ≤ '9' then c.toNat - '0'.toNat
    else if 'a' ≤ c ∧ c ≤ 'f' then c.toNat - 'a'.toNat + 10
    else if 'A' ≤ c ∧ c ≤ 'F' then c.toNat - 'A'.toNat + 10
    else base
  if v < base then some v else none

/-- The number a list of digits writes; no digit at all writes none. -/
def parseDigits (base : Nat) (cs : List Char) : Option Nat :=
  match cs with
  | [] => none
  | _ => cs.foldl (fun acc c => acc.bind fun n => (digitValue base c).map fun d => n * base + d) (some 0)

/-- A number, "decimal or `0x` hexadecimal" (30_encoding.md R95). -/
def parseNumber (cs : List Char) : Except AsmReject Nat :=
  match cs with
  | '0' :: 'x' :: ds => (parseDigits 16 ds).elim (.error .badNumber) .ok
  | ds => (parseDigits 10 ds).elim (.error .badNumber) .ok

/-- The pieces of a text between commas. -/
def splitCommas : List Char → List (List Char)
  | [] => [[]]
  | c :: cs =>
    if c == ',' then [] :: splitCommas cs
    else
      match splitCommas cs with
      | piece :: more => (c :: piece) :: more
      | [] => [[c]]

/-- The operands after a mnemonic: numbers with commas between them, or none. -/
def parseOperands (cs : List Char) : Except AsmReject (List Nat) :=
  match trimBlanks cs with
  | [] => .ok []
  | rest => (splitCommas rest).mapM fun piece => parseNumber (trimBlanks piece)

/-- The line a mnemonic and its operands make (30_encoding.md R95, R96). -/
def makeLine (mnemonic : List Char) (operands : List Nat) : Except AsmReject Line :=
  match mnemonic, operands with
  | ['N', 'O', 'P'], [] => .ok .nop
  | ['S', 'T', 'A', 'T', 'U', 'S'], [] => .ok .status
  | ['R', 'E', 'S', 'E', 'T'], [] => .ok .reset
  | ['T', 'X', '_', 'B', 'E', 'G', 'I', 'N'], [n] => .ok (.txBegin n)
  | ['R', 'X', '_', 'B', 'Y', 'T', 'E'], [n] => .ok (.rxByte n)
  | ['R', 'X', '_', 'T', 'A', 'K', 'E'], [n] => .ok (.rxTake n)
  | ['T', 'X', '_', 'S', 'T', 'E', 'P'], [] => .ok .txStepBare
  | ['T', 'X', '_', 'S', 'T', 'E', 'P'], [r] => .ok (.txStep r)
  | ['R', 'X', '_', 'F', 'E', 'E', 'D'], b :: bs => .ok (.rxFeed (b :: bs))
  | ['T', 'X', '_', 'S', 'E', 'N', 'D'], [n] => .ok (.txSend n)
  | ['N', 'O', 'P'], _ => .error .operandCount
  | ['S', 'T', 'A', 'T', 'U', 'S'], _ => .error .operandCount
  | ['R', 'E', 'S', 'E', 'T'], _ => .error .operandCount
  | ['T', 'X', '_', 'B', 'E', 'G', 'I', 'N'], _ => .error .operandCount
  | ['R', 'X', '_', 'B', 'Y', 'T', 'E'], _ => .error .operandCount
  | ['R', 'X', '_', 'T', 'A', 'K', 'E'], _ => .error .operandCount
  | ['T', 'X', '_', 'S', 'T', 'E', 'P'], _ => .error .operandCount
  | ['R', 'X', '_', 'F', 'E', 'E', 'D'], _ => .error .operandCount
  | ['T', 'X', '_', 'S', 'E', 'N', 'D'], _ => .error .operandCount
  | _, _ => .error .unknownMnemonic

/-- A line of text: nothing for a blank or comment line, else the line it writes (30_encoding.md R95). -/
def parseLine (cs : List Char) : Except AsmReject (Option Line) :=
  match trimBlanks (stripComment cs) with
  | [] => .ok none
  | text => do
    let operands ← parseOperands (text.dropWhile (!isBlank ·))
    let line ← makeLine (text.takeWhile (!isBlank ·)) operands
    .ok (some line)

/-- The command words of a host program, one line of text after the other (30_encoding.md R95). -/
def assembleText : List (List Char) → Except AsmReject (List Word)
  | [] => .ok []
  | cs :: rest => do
    let words ← match ← parseLine cs with
      | some l => assembleLine l
      | none => .ok []
    let more ← assembleText rest
    .ok (words ++ more)

end Sys2Proof.Machine
end

