-- ==== Sys2Proof/Machine/Frame.lean ====
section
/-! DEFINITION. The wire frame (30_encoding.md R70, R76). -/

namespace Sys2Proof.Machine

/-- The frame of a payload: STX, LEN, DATA, CHK, ETX (30_encoding.md R70). The length byte is the payload's
length, which is at most 255 for a payload that fits. -/
def wireFrame (v : ChkVariant) (data : List Byte) : List Byte :=
  let len := BitVec.ofNat 8 data.length
  stx :: len :: data ++ [checksum v len data, etx]

/-- A byte sequence is a valid frame (30_encoding.md R76): it starts with STX, its length byte `n` is at most
`MAX_PAYLOAD`, it has `n + 4` bytes, its byte `n + 2` is the checksum and its byte `n + 3` is ETX. -/
def validFrame (p : Params) (bytes : List Byte) : Bool :=
  match bytes with
  | first :: n :: rest =>
    first == stx && decide (n.toNat ≤ p.maxPayload.toNat) && decide (rest.length = n.toNat + 2) &&
      rest[n.toNat]? == some (checksum p.chk n (rest.take n.toNat)) && rest[n.toNat + 1]? == some etx
  | _ => false

end Sys2Proof.Machine
end

