-- ==== Sys2Proof/Safety.lean ====
section
/-! DEFINITION. What counts as a good run and a consistent state, in the terms claims use: sequences of commands
(70_reset_and_hazards.md R251), the invariants of 10_state.md R37 with what makes them inductive, the
canonical form of the memories, and the words that spell no command (30_encoding.md R83). -/

namespace Sys2Proof.Machine

/-- A list of commands issued one after the other (70_reset_and_hazards.md R251): it stops at the first fault or
refusal. -/
def execAll : List Instr → State → Host.Outcome State Fault Refusal
  | [], s => .next s
  | i :: rest, s =>
    match exec i s with
    | .next t => execAll rest t
    | .fault f => .fault f
    | .refused r => .refused r

/-- Bytes offered to the parser one after the other: the pseudo-command RX_FEED (30_encoding.md R96). -/
def feed (bytes : List Byte) : List Instr := bytes.map .rxByte

/-- The wire bytes the TX_STEP responses of a state carry, oldest first (30_encoding.md R89). -/
def produced (s : State) : List Byte := s.responses.reverse.filterMap txProduced

/-- The byte in flight in a channel (20_memory.md R60). -/
def Channel.inFlight (c : Channel) : List Byte := if c.full then [c.slot] else []

/-- What a sequence of events at a channel's two ends does: the channel after it, the bytes `try_put` accepted
and the bytes `try_get` returned, both oldest first (20_memory.md R61, R62). -/
def Channel.trace : List LinkEvent → Channel → Channel × List Byte × List Byte
  | [], c => (c, [], [])
  | .put b :: rest, c =>
    let r := Channel.trace rest (c.tryPut b).1
    (r.1, if (c.tryPut b).2 then b :: r.2.1 else r.2.1, r.2.2)
  | .get :: rest, c =>
    let r := Channel.trace rest c.tryGet.1
    (r.1, r.2.1, c.tryGet.2.toList ++ r.2.2)
  | .lose :: rest, c => Channel.trace rest (c.linked .lose)
  | .change b :: rest, c => Channel.trace rest (c.linked (.change b))

/-- The states in which the parser holds the data bytes of a frame in RXBUF. -/
def RxState.receiving : RxState → Bool
  | .waitStart => false
  | .readLength => false
  | .readData => true
  | .readChecksum => true
  | .waitEnd => true
  | .ready => true
  | .error => false

/-- The invariants of 10_state.md R37, with what makes them inductive: the cursor is 0 before the first data
byte, under EARLY the checksum already agrees in `WaitEnd`, and the receive accumulator is the checksum of
what RXBUF holds. -/
structure State.SessionInv (s : State) : Prop where
  /-- Before the data phase the transmit cursor is 0. -/
  txHead : s.txState = .sendStart ∨ s.txState = .sendLength → s.txCursor = 0
  /-- R37 item 1. -/
  txData : s.txState = .sendData → s.txCursor < s.txLen
  /-- R37 item 2. -/
  txFits : s.txState.busy = true → s.txLen ≤ s.params.maxPayload ∧ s.txCursor ≤ s.txLen
  /-- R37 item 3. -/
  rxData : s.rxState = .readData → s.rxCursor < s.rxLen
  /-- R37 item 3, and the same bound until the frame is collected. -/
  rxFits : s.rxState.receiving = true → s.rxLen ≤ s.params.maxPayload
  /-- R37 item 4. -/
  rxTail : s.rxState = .readChecksum ∨ s.rxState = .waitEnd ∨ s.rxState = .ready → s.rxCursor = s.rxLen
  /-- R37 item 5. -/
  accHigh : s.params.chk = .xor → s.txAcc.extractLsb' 8 8 = 0 ∧ s.rxAcc.extractLsb' 8 8 = 0
  /-- R37 item 6, first half; under EARLY it holds from `WaitEnd` on. -/
  rxChecked : s.rxState = .ready ∨ (s.rxState = .waitEnd ∧ s.params.topology = .early) →
    s.rxClaimed = chkFinal s.rxAcc
  /-- R37 item 6, second half: the cells below the cursor were written in this frame (10_state.md R31). -/
  rxListed : s.rxState.receiving = true → ∀ a, a < s.rxCursor.toNat → s.rxbuf.read a ≠ none
  /-- R37 item 6, second half: the accumulator is the checksum of the bytes RXBUF holds. -/
  rxSum : s.rxState.receiving = true →
    s.rxAcc = chkAcc s.params.chk s.rxLen (rxBytes s s.rxCursor.toNat)

/-- Every memory is in canonical form and lists only addresses of its space (20_memory.md R50). -/
structure State.MemoryInv (s : State) : Prop where
  txmemWf   : s.txmem.wf
  rxbufWf   : s.rxbuf.wf
  hostoutWf : s.hostout.wf
  txmemIn   : ∀ c ∈ s.txmem, c.1 < 256
  rxbufIn   : ∀ c ∈ s.rxbuf, c.1 < s.params.maxPayload.toNat
  hostoutIn : ∀ c ∈ s.hostout, c.1 < 255

/-- The words of 30_encoding.md R83, by their fields as numbers: a reserved `op`, a nonzero `rsv`, or an `arg`
bit set that R81 says must be `0`. -/
def IllegalWord (w : Word) : Prop :=
  7 ≤ w.toNat / 4096 ∨ w.toNat / 256 % 16 ≠ 0 ∨
    ((w.toNat / 4096 = 0 ∨ w.toNat / 4096 = 5 ∨ w.toNat / 4096 = 6) ∧ w.toNat % 256 ≠ 0) ∨
    (w.toNat / 4096 = 2 ∧ w.toNat % 256 / 2 ≠ 0)

/-- Two states that agree on everything but RXBUF cells the current frame has not written (10_state.md R31). -/
structure State.SameButUnwritten (s t : State) : Prop where
  rest : t = { s with rxbuf := t.rxbuf, draws := t.draws }
  written : s.rxState.receiving = true → ∀ a, a < s.rxCursor.toNat → readRx t a = readRx s a

end Sys2Proof.Machine
end

