-- ==== Sys2Proof/Certificates/Slice0/Obligations.lean ====
section
/-! DEFINITION. What is claimed of the machine: one definition per statement, each citing the rules of spec/ it
formalises. A statement over all states holds for every value of the three parameters, which are fields of
the state (log 1). -/

open Sys2Proof Sys2Proof.Machine

/-- 30_encoding.md R80, R81: no bit of a command's encoding is dropped, for every command and operand. -/
def Obligations.DecodeOfEncodeIsTheCommand : Prop :=
  ∀ i : Instr, i.wellFormed = true → decode (encode i) = .ok i

/-- 30_encoding.md R80, R81: a word has one meaning, and the command it spells has no other word. -/
def Obligations.EncodeOfDecodeIsTheWord : Prop :=
  ∀ (w : Word) (i : Instr), decode w = .ok i → encode i = w

/-- 30_encoding.md R83: a command word faults ILLEGAL_CMD exactly when its `op` is reserved, its `rsv` is not
0 or a must-be-zero `arg` bit is set. A fault carries no state, so none is changed. -/
def Obligations.IllegalWordsFaultIllegalCmd : Prop :=
  ∀ (s : State) (w : Word) (rest : List HostAction), s.pending = .command w :: rest →
    (step s = .fault (.illegalCmd w) ↔ IllegalWord w)

/-- 30_encoding.md R81 and spec/opcode_table.json: words written out bit by bit, one per command and the
boundary operands. -/
def Obligations.TableWordsDecode : Prop :=
  decode 0b0000_0000_0000_0000#16 = .ok .nop ∧
  decode 0b0001_0000_0000_0011#16 = .ok (.txBegin 3) ∧
  decode 0b0001_0000_1111_1111#16 = .ok (.txBegin 255) ∧
  decode 0b0010_0000_0000_0000#16 = .ok (.txStep false) ∧
  decode 0b0010_0000_0000_0001#16 = .ok (.txStep true) ∧
  decode 0b0011_0000_0100_0001#16 = .ok (.rxByte 0x41) ∧
  decode 0b0100_0000_1100_1000#16 = .ok (.rxTake 200) ∧
  decode 0b0101_0000_0000_0000#16 = .ok .status ∧
  decode 0b0110_0000_0000_0000#16 = .ok .reset

/-- 00_scope.md R9: when the host's next action is a command word that decodes to a well-formed command, a step
runs exactly that command, with the word taken from the pending list. -/
def Obligations.StepRunsTheDecodedCommand : Prop :=
  ∀ (s : State) (w : Word) (rest : List HostAction) (i : Instr),
    s.pending = .command w :: rest → decode w = .ok i → i.wellFormed = true →
      step s = exec i { s with pending := rest }

/-- 60_exceptions.md R229, 00_scope.md R9: with nothing pending, a step changes nothing. That a step may be
taken then is the model's choice (log 2). -/
def Obligations.StepWithNothingPendingWaits : Prop :=
  ∀ s : State, s.pending = [] → step s = .next s

/-- 30_encoding.md R95, R96: the words of each source line, an operand out of range having none. -/
def Obligations.SourceLinesAssembleToTheirWords : Prop :=
  (∀ l : Line, l.wellFormed = false → assembleLine l = .error .operandRange) ∧
  assembleLine .nop = .ok [0x0000] ∧ assembleLine .status = .ok [0x5000] ∧
  assembleLine .reset = .ok [0x6000] ∧ assembleLine .txStepBare = .ok [0x2001] ∧
  assembleLine (.txStep 0) = .ok [0x2000] ∧ assembleLine (.txStep 1) = .ok [0x2001] ∧
  (∀ n : Nat, n < 256 →
    assembleLine (.txBegin n) = .ok [BitVec.ofNat 16 (0x1000 + n)] ∧
    assembleLine (.rxByte n) = .ok [BitVec.ofNat 16 (0x3000 + n)] ∧
    assembleLine (.rxTake n) = .ok [BitVec.ofNat 16 (0x4000 + n)] ∧
    assembleLine (.txSend n) = .ok (BitVec.ofNat 16 (0x1000 + n) :: List.replicate (n + 4) 0x2001)) ∧
  (∀ bytes : List Nat, bytes ≠ [] → (∀ b ∈ bytes, b < 256) →
    assembleLine (.rxFeed bytes) = .ok (bytes.map fun b => BitVec.ofNat 16 (0x3000 + b)))

/-- 10_state.md R38: every register after power-on, and the STATUS word a host then reads. RXBUF's cells are
unspecified, so nothing is said of them. -/
def Obligations.PowerOnRegisters : Prop :=
  State.reset.txState = .idle ∧ State.reset.txLen = 0 ∧ State.reset.txCursor = 0 ∧
  State.reset.txAcc = 0x0000 ∧ State.reset.rxState = .waitStart ∧ State.reset.rxLen = 0 ∧
  State.reset.rxCursor = 0 ∧ State.reset.rxClaimed = 0 ∧ State.reset.rxAcc = 0x0000 ∧
  State.reset.lastError = .none ∧
  step (State.reset.withFetchWord 16 0x5000) = .next { State.reset with responses := [0x0008] }

/-- 70_reset_and_hazards.md R240, 43_collect_control.md R193: the RESET command (word `0x6000`), the reset input and
power-on have the same effect on the block, which is to give every register its value of 10_state.md R38; TXMEM,
HOSTOUT and the channels stay. RXBUF takes any value (`m`, `k` are not constrained). A STATUS after it answers
`0x0008`. -/
def Obligations.ResetGivesEveryRegisterItsValue : Prop :=
  encode .reset = 0x6000 ∧
  (∃ (m : Memory) (k : Nat), State.reset = { State.reset with
    txState := .idle, txLen := 0, txCursor := 0, txAcc := 0x0000,
    rxState := .waitStart, rxLen := 0, rxCursor := 0, rxAcc := 0x0000, rxClaimed := 0,
    lastError := .none, rxbuf := m, draws := k }) ∧
  (∀ s : State, ∃ t : State, execAll [.reset, .status] s = .next t ∧ t.responses.head? = some 0x0008) ∧
  ∀ (s : State) (rest : List HostAction), ∃ (m : Memory) (k : Nat),
    exec .reset s = .next { s with
      txState := .idle, txLen := 0, txCursor := 0, txAcc := 0x0000,
      rxState := .waitStart, rxLen := 0, rxCursor := 0, rxAcc := 0x0000, rxClaimed := 0,
      lastError := .none, rxbuf := m, draws := k, responses := 0x0000 :: s.responses } ∧
    (s.pending = .resetInput :: rest → step s = .next { s with
      txState := .idle, txLen := 0, txCursor := 0, txAcc := 0x0000,
      rxState := .waitStart, rxLen := 0, rxCursor := 0, rxAcc := 0x0000, rxClaimed := 0,
      lastError := .none, rxbuf := m, draws := k, pending := rest })

/-- 40_checksum.md R101 to R105: seed, fold and final byte of both variants as numbers, the zero upper byte of
XOR, and that ADD never overflows on a payload of at most 255 bytes. -/
def Obligations.ChecksumAccumulatorValues : Prop :=
  (∀ (acc : Word) (len b : Byte),
    (chkSeed .xor len).toNat = 0x02 ^^^ len.toNat ∧ (chkFold .xor acc b).toNat = acc.toNat ^^^ b.toNat ∧
    (chkSeed .add len).toNat = len.toNat ∧ (chkFold .add acc b).toNat = (acc.toNat + b.toNat) % 65536 ∧
    (chkFinal acc).toNat = acc.toNat % 256) ∧
  (∀ (len : Byte) (data : List Byte), (chkAcc .xor len data).toNat < 256) ∧
  (∀ (len : Byte) (data : List Byte), data.length ≤ 255 →
    (chkAcc .add len data).toNat = len.toNat + (data.map BitVec.toNat).sum)

/-- 40_checksum.md R106: the closed forms of the frame checksum, any order of the same bytes giving the same. -/
def Obligations.ChecksumClosedForms : Prop :=
  ∀ (n : Byte) (d : List Byte), d.length = n.toNat →
    checksum .xor n d = d.foldl (· ^^^ ·) (0x02 ^^^ n) ∧
    (checksum .add n d).toNat = (n.toNat + (d.map BitVec.toNat).sum) % 256 ∧
    ∀ (v : ChkVariant) (e : List Byte), d.Perm e → checksum v n e = checksum v n d

/-- 41_transmit.md R120: TX_BEGIN faults on a length above MAX_PAYLOAD whatever the state, starts a send in `Idle`
and `Done`, and is refused while a send is active. Its word is `0x1000 | len`. -/
def Obligations.TxBeginStartsRefusesOrFaults : Prop :=
  ∀ (len : Byte) (s : State),
    encode (.txBegin len) = 0x1000 ||| len.setWidth 16 ∧
    (s.params.maxPayload.toNat < len.toNat →
      exec (.txBegin len) s = .fault (.precondition (BitVec.ofNat 16 (0x1000 + len.toNat)))) ∧
    (len.toNat ≤ s.params.maxPayload.toNat → s.txState = .idle ∨ s.txState = .done →
      exec (.txBegin len) s = .next { s with
        txLen := len, txCursor := 0, txAcc := chkSeed s.params.chk len, txState := .sendStart,
        responses := 0x0001 :: s.responses }) ∧
    (len.toNat ≤ s.params.maxPayload.toNat → s.txState ≠ .idle → s.txState ≠ .done →
      exec (.txBegin len) s = .next { s with responses := 0x0000 :: s.responses })

/-- 41_transmit.md R122, R128: in `Idle` nothing changes, in `Done` the state becomes `Idle`, whatever the gate;
no byte is produced. -/
def Obligations.TxStepInIdleAndDoneProducesNothing : Prop :=
  ∀ (g : Bool) (s : State),
    (s.txState = .idle → exec (.txStep g) s = .next { s with responses := 0x0000 :: s.responses }) ∧
    (s.txState = .done →
      exec (.txStep g) s = .next { s with txState := .idle, responses := 0x0000 :: s.responses })

/-- 41_transmit.md R121: with the gate closed nothing changes in any state but `Done`, not even where the
`SendData` guard would fault. -/
def Obligations.TxStepWithClosedGateChangesNothing : Prop :=
  ∀ s : State, s.txState ≠ .done →
    exec (.txStep false) s = .next { s with responses := 0x0000 :: s.responses }

/-- 41_transmit.md R123, R127: the two marker bytes. -/
def Obligations.TxStepSendsTheMarkers : Prop :=
  ∀ s : State,
    (s.txState = .sendStart →
      exec (.txStep true) s = .next { s with txState := .sendLength, responses := 0x0102 :: s.responses }) ∧
    (s.txState = .sendEnd →
      exec (.txStep true) s = .next { s with txState := .done, responses := 0x0103 :: s.responses })

/-- 41_transmit.md R124: the length byte, the skipped data phase of an empty frame, and the checksum byte that
then follows. -/
def Obligations.TxStepSendsTheLength : Prop :=
  ∀ s : State, s.txState = .sendLength →
    exec (.txStep true) s = .next { s with
      txState := if s.txLen = 0 then .sendChecksum else .sendData,
      responses := (0x0100 ||| s.txLen.setWidth 16) :: s.responses } ∧
    (s.txLen = 0 → s.txAcc = chkSeed s.params.chk 0 → ∃ t : State,
      execAll [.txStep true, .txStep true] s = .next t ∧
      t.responses.head? = some (match s.params.chk with | .xor => 0x0102 | .add => 0x0100))

/-- 41_transmit.md R125: a payload byte read from TXMEM at the cursor and folded, and the fault where the cursor
has reached the length. -/
def Obligations.TxStepSendsADataByte : Prop :=
  ∀ s : State, s.txState = .sendData →
    (s.txLen.toNat ≤ s.txCursor.toNat → exec (.txStep true) s = .fault (.invariant 0x2001)) ∧
    (s.txCursor.toNat < s.txLen.toNat →
      exec (.txStep true) s = .next { s with
        txAcc := chkFold s.params.chk s.txAcc (readTx s s.txCursor.toNat),
        txCursor := BitVec.ofNat 8 (s.txCursor.toNat + 1),
        txState := if s.txCursor.toNat + 1 = s.txLen.toNat then .sendChecksum else .sendData,
        responses := (0x0100 ||| (readTx s s.txCursor.toNat).setWidth 16) :: s.responses })

/-- 41_transmit.md R126, first part: the checksum byte is the low byte of the accumulator. -/
def Obligations.TxStepSendsTheChecksum : Prop :=
  ∀ s : State, s.txState = .sendChecksum →
    exec (.txStep true) s = .next { s with
      txState := .sendEnd,
      responses := (0x0100 ||| BitVec.ofNat 16 (s.txAcc.toNat % 256)) :: s.responses }

/-- 41_transmit.md R129: the byte depends on `tx_state`, `tx_len`, `tx_acc` and `TXMEM[tx_cursor]` alone, and
no state is skipped but the data phase of an empty frame. -/
def Obligations.FramerIsMealyAndSkipsNoState : Prop :=
  (∀ (g : Bool) (s s' t t' : State), s.txState = s'.txState → s.txLen = s'.txLen → s.txAcc = s'.txAcc →
    readTx s s.txCursor.toNat = readTx s' s'.txCursor.toNat →
    exec (.txStep g) s = .next t → exec (.txStep g) s' = .next t' →
      t.responses.head? = t'.responses.head?) ∧
  (∀ (g : Bool) (s t : State), exec (.txStep g) s = .next t →
    t.txState = s.txState ∨ (s.txState = .sendStart ∧ t.txState = .sendLength) ∨
    (s.txState = .sendLength ∧ s.txLen ≠ 0 ∧ t.txState = .sendData) ∨
    (s.txState = .sendLength ∧ s.txLen = 0 ∧ t.txState = .sendChecksum) ∨
    (s.txState = .sendData ∧ t.txState = .sendChecksum) ∨
    (s.txState = .sendChecksum ∧ t.txState = .sendEnd) ∨ (s.txState = .sendEnd ∧ t.txState = .done) ∨
    (s.txState = .done ∧ t.txState = .idle))

/-- 41_transmit.md R130: after an accepted TX_BEGIN, TX_STEPs with the gate open `n + 4` times, closed any
number of times between, produce exactly the frame of `TXMEM[0..n-1]`, which is a valid frame, and end in
`Done`. -/
def Obligations.SendEmitsExactlyTheFrame : Prop :=
  ∀ (n : Byte) (s : State) (gates : List Bool), n.toNat ≤ s.params.maxPayload.toNat →
    s.txState = .idle ∨ s.txState = .done → gates.count true = n.toNat + 3 →
      ∃ t : State, execAll (.txBegin n :: (gates ++ [true]).map .txStep) s = .next t ∧ t.txState = .done ∧
        produced t = produced s ++
          (0x02 :: n :: txBytes s n.toNat ++ [checksum s.params.chk n (txBytes s n.toNat), 0x03]) ∧
        validFrame s.params
          (0x02 :: n :: txBytes s n.toNat ++ [checksum s.params.chk n (txBytes s n.toNat), 0x03]) = true

/-- 42_receive.md R151: in `WaitStart` a start marker begins a frame and any other byte is noise. -/
def Obligations.RxByteInWaitStart : Prop :=
  ∀ (b : Byte) (s : State), s.rxState = .waitStart →
    exec (.rxByte b) s = .next (
      if b = 0x02 then { s with rxState := .readLength, responses := 0x0001 :: s.responses }
      else { s with responses := 0x0009 :: s.responses })

/-- 42_receive.md R152, 60_exceptions.md R211: the length byte, accepted up to MAX_PAYLOAD and an error above it,
which writes no register of the frame and no RXBUF cell. -/
def Obligations.RxByteInReadLength : Prop :=
  ∀ (b : Byte) (s : State), s.rxState = .readLength →
    (s.params.maxPayload.toNat < b.toNat →
      exec (.rxByte b) s = .next { s with
        rxState := .error, lastError := .lengthOverflow, responses := 0x0025 :: s.responses }) ∧
    (b.toNat ≤ s.params.maxPayload.toNat →
      exec (.rxByte b) s = .next { s with
        rxLen := b, rxCursor := 0, rxAcc := chkSeed s.params.chk b,
        rxState := if b = 0 then .readChecksum else .readData, responses := 0x0001 :: s.responses })

/-- 42_receive.md R153, 60_exceptions.md R212: a data byte is stored at the cursor and folded; every other RXBUF
cell stays. Where the cursor has reached the length or the buffer's end, the parser enters `Error` and stores
nothing. -/
def Obligations.RxByteInReadData : Prop :=
  ∀ (b : Byte) (s : State), s.rxState = .readData →
    (s.rxLen.toNat ≤ s.rxCursor.toNat ∨ s.params.maxPayload.toNat ≤ s.rxCursor.toNat →
      exec (.rxByte b) s = .next { s with
        rxState := .error, lastError := .bufferOverrun, responses := 0x0045 :: s.responses }) ∧
    (s.rxCursor.toNat < s.rxLen.toNat → s.rxCursor.toNat < s.params.maxPayload.toNat →
      ∃ t : State,
        exec (.rxByte b) s = .next t ∧
        t = { s with
          rxbuf := t.rxbuf,
          rxAcc := chkFold s.params.chk s.rxAcc b,
          rxCursor := BitVec.ofNat 8 (s.rxCursor.toNat + 1),
          rxState := if s.rxCursor.toNat + 1 = s.rxLen.toNat then .readChecksum else .readData,
          responses := 0x0001 :: s.responses } ∧
        ∀ a : Nat, readRx t a = if a = s.rxCursor.toNat then b else readRx s a)

/-- 42_receive.md R154, R155: the checksum byte is stored; EARLY compares it at once, DEFERRED does not. -/
def Obligations.RxByteInReadChecksum : Prop :=
  ∀ (b : Byte) (s : State), s.rxState = .readChecksum →
    (s.params.topology = .deferred ∨ b.toNat = s.rxAcc.toNat % 256 →
      exec (.rxByte b) s = .next { s with
        rxClaimed := b, rxState := .waitEnd, responses := 0x0001 :: s.responses }) ∧
    (s.params.topology = .early → b.toNat ≠ s.rxAcc.toNat % 256 →
      exec (.rxByte b) s = .next { s with
        rxClaimed := b, rxState := .error, lastError := .checksumMismatch,
        responses := 0x0065 :: s.responses })

/-- 42_receive.md R156, R157, 60_exceptions.md R214: the end marker, tested before the checksum under DEFERRED. -/
def Obligations.RxByteInWaitEnd : Prop :=
  ∀ (b : Byte) (s : State), s.rxState = .waitEnd →
    (b ≠ 0x03 →
      exec (.rxByte b) s = .next { s with
        rxState := .error, lastError := .framingError, responses := 0x0085 :: s.responses }) ∧
    (s.params.topology = .deferred → s.rxClaimed.toNat ≠ s.rxAcc.toNat % 256 →
      exec (.rxByte 0x03) s = .next { s with
        rxState := .error, lastError := .checksumMismatch, responses := 0x0065 :: s.responses }) ∧
    (s.params.topology = .early ∨ s.rxClaimed.toNat = s.rxAcc.toNat % 256 →
      exec (.rxByte 0x03) s = .next { s with rxState := .ready, responses := 0x0003 :: s.responses })

/-- 42_receive.md R158: in `Ready` the byte is not consumed and no register changes. -/
def Obligations.RxByteInReadyIsNotConsumed : Prop :=
  ∀ (b : Byte) (s : State), s.rxState = .ready →
    exec (.rxByte b) s = .next { s with responses := 0x0002 :: s.responses }

/-- 42_receive.md R159: in `Error` a start marker restarts framing and any other byte is discarded; `last_error`
stays. -/
def Obligations.RxByteInErrorResyncs : Prop :=
  ∀ (b : Byte) (s : State), s.rxState = .error →
    exec (.rxByte b) s = .next (
      if b = 0x02 then { s with rxState := .readLength, responses := 0x0011 :: s.responses }
      else { s with responses := 0x000D :: s.responses })

/-- 42_receive.md R160, R161, 30_encoding.md R90, R91: every field of the RX_BYTE response, in every state; a
discarded byte changes neither `last_error` nor sets a cause. -/
def Obligations.RxByteResponseFields : Prop :=
  ∀ (b : Byte) (s : State), ∃ (t : State) (w : Word),
    exec (.rxByte b) s = .next t ∧ t.responses = w :: s.responses ∧
    w.getLsbD 0 = decide (s.rxState ≠ .ready) ∧
    w.extractLsb' 1 2 = (if t.rxState = .ready then 1#2 else if t.rxState = .error then 2#2 else 0#2) ∧
    w.getLsbD 3 = decide ((s.rxState = .waitStart ∨ s.rxState = .error) ∧ b ≠ 0x02) ∧
    w.getLsbD 4 = decide (s.rxState = .error ∧ b = 0x02) ∧
    w.extractLsb' 5 3 =
      (if s.rxState ≠ .error ∧ t.rxState = .error then
        match t.lastError with
        | .none => 0#3
        | .lengthOverflow => 1#3
        | .bufferOverrun => 2#3
        | .checksumMismatch => 3#3
        | .framingError => 4#3
      else 0#3) ∧
    w.extractLsb' 8 8 = 0 ∧
    (w.getLsbD 3 = true → t.lastError = s.lastError ∧ w.extractLsb' 5 3 = 0#3)

/-- 60_exceptions.md R217: entering `Error` writes `rx_state` and `last_error`, puts the cause in the response,
consumes the byte and changes nothing else but the checksum byte EARLY stores (42_receive.md R155). -/
def Obligations.ErrorEntryChangesOnlyStateAndCause : Prop :=
  ∀ (b : Byte) (s t : State), exec (.rxByte b) s = .next t → s.rxState ≠ .error → t.rxState = .error →
    ∃ (cause : Cause) (w : Word), cause ≠ .none ∧ w.getLsbD 0 = true ∧ w.extractLsb' 5 3 = cause.code ∧
      t = { s with
        rxState := .error, lastError := cause, rxClaimed := t.rxClaimed, responses := w :: s.responses } ∧
      t.rxClaimed =
        (if s.rxState = .readChecksum ∧ s.params.topology = .early then b else s.rxClaimed)

/-- 60_exceptions.md R218: only the byte `0x02`, which resyncs and restores nothing, and reset leave `Error`. The
second part says it of every action of the host and of the environment, the third that `ReadLength` reseeds the
frame's registers. -/
def Obligations.OnlyAStartMarkerOrResetLeavesError : Prop :=
  (∀ (i : Instr) (s t : State), s.rxState = .error → exec i s = .next t →
    (t.rxState ≠ .error ↔ i = .rxByte 0x02 ∨ i = .reset) ∧
    (i = .rxByte 0x02 →
      t = { s with rxState := .readLength, responses := 0x0011 :: s.responses })) ∧
  (∀ s t : State, s.rxState = .error → step s = .next t → t.rxState ≠ .error →
    ∃ (a : HostAction) (rest : List HostAction), s.pending = a :: rest ∧
      (a = .command 0x3002 ∨ a = .command 0x6000 ∨ a = .resetInput ∨
        (a = .moveIn ∧ (s.held = some 0x02 ∨
          (s.held = none ∧ s.rxChan = { slot := 0x02, full := true }))))) ∧
  (∀ (b : Byte) (s : State), s.rxState = .readLength → b.toNat ≤ s.params.maxPayload.toNat →
    ∃ t : State, exec (.rxByte b) s = .next t ∧ t.rxLen = b ∧ t.rxCursor = 0 ∧
      t.rxAcc = chkSeed s.params.chk b)

/-- 10_state.md R32: `last_error` is written only by an entry into `Error` and by reset; RX_TAKE, a resync and a
good frame keep it. -/
def Obligations.OnlyErrorEntryAndResetWriteLastError : Prop :=
  ∀ (i : Instr) (s t : State), exec i s = .next t →
    t.lastError = s.lastError ∨ (i = .reset ∧ t.lastError = .none) ∨
      ((∃ b, i = .rxByte b) ∧ s.rxState ≠ .error ∧ t.rxState = .error ∧ t.lastError ≠ .none)

/-- 20_memory.md R50: no command writes TXMEM, only RX_TAKE in `Ready` writes HOSTOUT below `rx_len`, and only
RX_BYTE in `ReadData` writes RXBUF, at the cursor. Said byte by byte; RESET leaves RXBUF unspecified. -/
def Obligations.EachSpaceHasItsOneWriter : Prop :=
  ∀ (i : Instr) (s t : State), exec i s = .next t →
    (∀ a : Nat, readTx t a = readTx s a) ∧
    (∀ a : Nat, readOut t a = readOut s a ∨
      ((∃ cap, i = .rxTake cap) ∧ s.rxState = .ready ∧ a < s.rxLen.toNat)) ∧
    (i ≠ .reset → ∀ a : Nat, readRx t a = readRx s a ∨
      ((∃ b, i = .rxByte b) ∧ s.rxState = .readData ∧ a = s.rxCursor.toNat ∧
        a < s.params.maxPayload.toNat))

/-- 60_exceptions.md R220, R217: each command but RESET touches at most one session, and no command touches the
channels, the byte held back or the pending actions. -/
def Obligations.EachCommandTouchesOneSession : Prop :=
  ∀ (i : Instr) (s t : State), exec i s = .next t →
    (i ≠ .reset → (∀ len, i ≠ .txBegin len) → (∀ g, i ≠ .txStep g) →
      t.txState = s.txState ∧ t.txLen = s.txLen ∧ t.txCursor = s.txCursor ∧ t.txAcc = s.txAcc) ∧
    (i ≠ .reset → (∀ b, i ≠ .rxByte b) → (∀ cap, i ≠ .rxTake cap) →
      t.rxState = s.rxState ∧ t.rxLen = s.rxLen ∧ t.rxCursor = s.rxCursor ∧ t.rxAcc = s.rxAcc ∧
      t.rxClaimed = s.rxClaimed ∧ t.lastError = s.lastError) ∧
    t.txChan = s.txChan ∧ t.rxChan = s.rxChan ∧ t.held = s.held ∧ t.pending = s.pending

/-- 00_scope.md R7: nothing that happens to the block changes its build-time parameters. -/
def Obligations.ParametersNeverChange : Prop :=
  ∀ s t : State, step s = .next t → t.params = s.params

/-- 60_exceptions.md R222: exactly when a command faults, of which of the three kinds, with its word: for a command,
for a command word, and for every other action of the host, of which only moving a byte out can fault. Nothing
is ever refused. -/
def Obligations.CommandsFaultExactlyAsListed : Prop :=
  (∀ (i : Instr) (s : State) (f : Fault), exec i s = .fault f ↔
    (∃ len, i = .txBegin len ∧ s.params.maxPayload.toNat < len.toNat ∧ f = .precondition (encode i)) ∨
    (i = .txStep true ∧ s.txState = .sendData ∧ s.txLen.toNat ≤ s.txCursor.toNat ∧
      f = .invariant (encode i))) ∧
  (∀ (s : State) (w : Word) (rest : List HostAction) (f : Fault), s.pending = .command w :: rest →
    (step s = .fault f ↔
      (IllegalWord w ∧ f = .illegalCmd w) ∨
      (∃ len : Byte, w = 0x1000 ||| len.setWidth 16 ∧ s.params.maxPayload.toNat < len.toNat ∧
        f = .precondition w) ∨
      (w = 0x2001 ∧ s.txState = .sendData ∧ s.txLen.toNat ≤ s.txCursor.toNat ∧ f = .invariant w))) ∧
  (∀ (s : State) (f : Fault), (∀ w rest, s.pending ≠ .command w :: rest) →
    (step s = .fault f ↔
      (∃ rest, s.pending = .moveOut :: rest) ∧ s.txChan.full = false ∧ s.txState = .sendData ∧
        s.txLen.toNat ≤ s.txCursor.toNat ∧ f = .invariant 0x2001)) ∧
  ∀ (s : State) (r : Refusal), (∀ i : Instr, exec i s ≠ .refused r) ∧ step s ≠ .refused r

/-- 10_state.md R37, 60_exceptions.md R222: in a state that meets the invariant the only fault a command can raise
is PRECONDITION, by TX_BEGIN; the INVARIANT fault is unreachable. -/
def Obligations.OnlyPreconditionFaultsUnderTheInvariant : Prop :=
  ∀ (i : Instr) (s : State) (f : Fault), s.SessionInv → exec i s = .fault f →
    ∃ len : Byte, i = .txBegin len ∧ s.params.maxPayload.toNat < len.toNat ∧
      f = .precondition (BitVec.ofNat 16 (0x1000 + len.toNat))

/-- 43_collect_control.md R190: outside `Ready`, or with a capacity below the length, nothing changes; else the
payload is copied to HOSTOUT byte by byte, every other HOSTOUT cell stays, and the session is reset, whatever the
length. RX_TAKE raises no exception. Its word is `0x4000 | cap`. -/
def Obligations.RxTakeCollectsOrReturnsNothing : Prop :=
  ∀ (cap : Byte) (s : State),
    encode (.rxTake cap) = 0x4000 ||| cap.setWidth 16 ∧
    (s.rxState ≠ .ready ∨ cap.toNat < s.rxLen.toNat →
      exec (.rxTake cap) s = .next { s with responses := 0x0000 :: s.responses }) ∧
    (s.rxState = .ready → s.rxLen.toNat ≤ cap.toNat →
      ∃ t : State,
        exec (.rxTake cap) s = .next t ∧
        t = { s with
          hostout := t.hostout, rxState := .waitStart, rxLen := 0, rxCursor := 0, rxAcc := 0x0000,
          rxClaimed := 0, responses := (0x0100 ||| s.rxLen.setWidth 16) :: s.responses } ∧
        ∀ a : Nat, readOut t a = if a < s.rxLen.toNat then readRx s a else readOut s a)

/-- 10_state.md R37, 43_collect_control.md R190, 20_memory.md R50: a loaded state whose frame is longer than RXBUF is
collected as well: the bytes of RXBUF's own cells are delivered, the session is reset. Of the bytes past RXBUF's
end nothing is said but what log 9 chooses: they do not depend on what RXBUF's list holds (`m`). -/
def Obligations.RxTakePastTheBufferCollects : Prop :=
  ∀ (cap : Byte) (s : State) (m : Memory), s.rxState = .ready → s.rxLen.toNat ≤ cap.toNat →
    s.params.maxPayload.toNat < s.rxLen.toNat →
      ∃ t u : State, exec (.rxTake cap) s = .next t ∧ exec (.rxTake cap) { s with rxbuf := m } = .next u ∧
        t.rxState = .waitStart ∧ t.rxLen = 0 ∧ t.rxCursor = 0 ∧ t.rxAcc = 0x0000 ∧ t.rxClaimed = 0 ∧
        t.responses = (0x0100 ||| s.rxLen.setWidth 16) :: s.responses ∧
        (∀ a : Nat, a < s.params.maxPayload.toNat → readOut t a = readRx s a) ∧
        ∀ a : Nat, s.params.maxPayload.toNat ≤ a → readOut u a = readOut t a

/-- 43_collect_control.md R191, 30_encoding.md R85, R86, R93, 60_exceptions.md R210: the fields of the STATUS word by
number; nothing but the response changes. The command's word is `0x5000`. -/
def Obligations.StatusReturnsTheStatusWord : Prop :=
  encode .status = 0x5000 ∧ ∀ s : State, ∃ w : Word,
    exec .status s = .next { s with responses := w :: s.responses } ∧
    w.extractLsb' 0 3 = (match s.rxState with
      | .waitStart => 0#3
      | .readLength => 1#3
      | .readData => 2#3
      | .readChecksum => 3#3
      | .waitEnd => 4#3
      | .ready => 5#3
      | .error => 6#3) ∧
    w.getLsbD 3 = decide (s.rxState = .waitStart ∨ s.rxState = .error) ∧
    w.extractLsb' 4 3 = (match s.txState with
      | .idle => 0#3
      | .sendStart => 1#3
      | .sendLength => 2#3
      | .sendData => 3#3
      | .sendChecksum => 4#3
      | .sendEnd => 5#3
      | .done => 6#3) ∧
    w.getLsbD 7 = decide (s.txState ≠ .idle ∧ s.txState ≠ .done) ∧
    w.extractLsb' 8 3 = (match s.lastError with
      | .none => 0#3
      | .lengthOverflow => 1#3
      | .bufferOverrun => 2#3
      | .checksumMismatch => 3#3
      | .framingError => 4#3) ∧
    w.extractLsb' 11 5 = 0#5

/-- 43_collect_control.md R192: NOP answers `0x0000` and changes nothing, issued as the all-zero word. -/
def Obligations.NopChangesNothing : Prop :=
  ∀ (s : State) (rest : List HostAction), s.pending = .command 0x0000 :: rest →
    step s = .next { s with pending := rest, responses := 0x0000 :: s.responses } ∧
    exec .nop s = .next { s with responses := 0x0000 :: s.responses }

/-- 30_encoding.md R87, R94: a command that answers returns exactly one response word, with no bit set that
R88 to R94 do not name. -/
def Obligations.ResponsesHoldOnlyNamedBits : Prop :=
  ∀ (i : Instr) (s t : State), exec i s = .next t →
    ∃ w : Word, t.responses = w :: s.responses ∧
      w.toNat < (match i with
        | .nop => 1
        | .txBegin _ => 2
        | .txStep _ => 512
        | .rxByte _ => 256
        | .rxTake _ => 512
        | .status => 2048
        | .reset => 1)

/-- 30_encoding.md R76, 42_receive.md R162, R164, R165: a start marker, a length that fits and as many bytes as it
announces leave the parser in `Ready` exactly when they are a valid frame, and RXBUF then holds the data. -/
def Obligations.ParserAcceptsExactlyTheValidFrames : Prop :=
  ∀ (s : State) (n : Byte) (body : List Byte), s.rxState = .waitStart ∨ s.rxState = .error →
    n.toNat ≤ s.params.maxPayload.toNat → body.length = n.toNat + 2 →
      ∃ t : State, execAll (feed (0x02 :: n :: body)) s = .next t ∧
        (t.rxState = .ready ↔ validFrame s.params (0x02 :: n :: body) = true) ∧
        (t.rxState = .ready → t.rxLen = n ∧ rxBytes t n.toNat = body.take n.toNat)

/-- 42_receive.md R163: what the checksum byte `c` and the byte `x` after it leave under each topology; every other
arm of the parser does the same under both. -/
def Obligations.TopologiesDifferOnlyAfterABadChecksum : Prop :=
  (∀ (s : State) (c x : Byte), s.rxState = .readChecksum →
    ∃ t : State, execAll (feed [c, x]) s = .next t ∧
      (t.rxState, t.lastError) =
        (if c.toNat = s.rxAcc.toNat % 256 then
          if x = 0x03 then (.ready, s.lastError) else (.error, .framingError)
        else match s.params.topology with
          | .deferred => if x = 0x03 then (.error, .checksumMismatch) else (.error, .framingError)
          | .early => if x = 0x02 then (.readLength, .checksumMismatch) else (.error, .checksumMismatch))) ∧
  (∀ (s : State) (b : Byte) (u : RxTopology), s.rxState ≠ .readChecksum → s.rxState ≠ .waitEnd →
    ∃ t : State, exec (.rxByte b) s = .next t ∧
      exec (.rxByte b) { s with params := { s.params with topology := u } } =
        .next { t with params := { s.params with topology := u } })

/-- 42_receive.md R164, 40_checksum.md R108: what a framer sends, noise before it or not, a parser with the same
parameters receives, payload and length. -/
def Obligations.RoundTripDeliversThePayload : Prop :=
  ∀ (n : Byte) (s r : State) (noise : List Byte), r.params = s.params →
    n.toNat ≤ s.params.maxPayload.toNat → s.txState = .idle ∨ s.txState = .done →
    r.rxState = .waitStart ∨ r.rxState = .error → (∀ b ∈ noise, b ≠ 0x02) →
      ∃ t u : State,
        execAll (.txBegin n :: List.replicate (n.toNat + 4) (.txStep true)) s = .next t ∧
        execAll (feed (noise ++ (produced t).drop (produced s).length)) r = .next u ∧
        u.rxState = .ready ∧ u.rxLen = n ∧ rxBytes u n.toNat = txBytes s n.toNat

/-- 20_memory.md R50, R51, R57: the host's write to a TXMEM cell between commands sets that cell, changes no other,
and is seen by what follows. -/
def Obligations.HostWriteSetsOneTxmemCell : Prop :=
  ∀ (s : State) (a b : Byte) (rest : List HostAction), s.pending = .writeTx a b :: rest →
    ∃ t : State, step s = .next t ∧ t = { s with txmem := t.txmem, pending := rest } ∧
      ∀ k : Nat, readTx t k = if k = a.toNat then b else readTx s k

/-- 20_memory.md R63: on a channel that only its two ends act on, the bytes the consumer got, then the byte in
flight, are the byte that was in flight, then the bytes the producer put, in their order. -/
def Obligations.ChannelKeepsTheOrder : Prop :=
  ∀ (c : Channel) (events : List LinkEvent), (∀ e ∈ events, e = .get ∨ ∃ b, e = .put b) →
    (Channel.trace events c).2.2 ++ (Channel.trace events c).1.inFlight =
      c.inFlight ++ (Channel.trace events c).2.1

/-- 20_memory.md R64: whatever a channel holds, the link can make it hold any byte, or none, and then the consumer
gets that. -/
def Obligations.LinkCanDeliverAnyByteOrNone : Prop :=
  ∀ (s : State) (c : ChannelId) (x : Option Byte) (rest : List HostAction),
    ∃ (e e' : LinkEvent) (u t : State),
      step { s with pending := .link c e :: .link c e' :: rest } = .next u ∧ step u = .next t ∧
      (match c with | .tx => t.txChan | .rx => t.rxChan).tryGet.2 = x ∧
      t = { s with txChan := t.txChan, rxChan := t.rxChan, pending := rest }

/-- 20_memory.md R65, first half: a byte moves out only when the channel is free, by a TX_STEP with the gate open,
and the byte the response carries is then in the channel. -/
def Obligations.MovingOutDeliversTheByte : Prop :=
  ∀ (s : State) (rest : List HostAction), s.pending = .moveOut :: rest →
    (s.txChan.full = true → step s = .next { s with pending := rest }) ∧
    (s.txChan.full = false → ∀ u : State, exec (.txStep true) { s with pending := rest } = .next u →
      ∃ w : Word, u.responses = w :: s.responses ∧
        step s = .next (if w.getLsbD 8 then
            { u with txChan := { slot := BitVec.ofNat 8 (w.toNat % 256), full := true } } else u))

/-- 20_memory.md R65, second half: the byte kept from before, else the channel's byte, is offered to the parser;
a byte that is not accepted is kept, so that none is lost; with no byte the host waits. -/
def Obligations.MovingInLosesNoByte : Prop :=
  ∀ (s : State) (rest : List HostAction), s.pending = .moveIn :: rest →
    (s.held = none → s.rxChan.full = false → step s = .next { s with pending := rest }) ∧
    (∀ (b : Byte) (c : Channel),
      (s.held = some b ∧ c = s.rxChan) ∨
        (s.held = none ∧ s.rxChan = { slot := b, full := true } ∧ c = { slot := b, full := false }) →
      (s.rxState = .ready → step s = .next { s with
        pending := rest, rxChan := c, held := some b, responses := 0x0002 :: s.responses }) ∧
      (s.rxState ≠ .ready → ∃ u : State,
        exec (.rxByte b) { s with pending := rest, rxChan := c } = .next u ∧
        step s = .next { u with held := none }))

/-- 10_state.md R37, 20_memory.md R50: the power-on state meets both invariants. -/
def Obligations.PowerOnStateMeetsTheInvariants : Prop :=
  State.reset.SessionInv ∧ State.reset.MemoryInv

/-- 10_state.md R37: every step keeps the session invariant, whatever the host and the environment do. -/
def Obligations.EveryStepKeepsTheSessionInvariant : Prop :=
  ∀ s t : State, s.SessionInv → step s = .next t → t.SessionInv

/-- 20_memory.md R50, R51: every step keeps the memories in canonical form and inside their spaces. -/
def Obligations.EveryStepKeepsTheMemoriesCanonical : Prop :=
  ∀ s t : State, s.MemoryInv → step s = .next t → t.MemoryInv

/-- 10_state.md R31, 70_reset_and_hazards.md R240: two states that differ only in RXBUF cells the current frame has
not written answer every command alike and stay so; no rule can tell the difference. -/
def Obligations.UnwrittenBufferCellsAreNeverObserved : Prop :=
  ∀ (i : Instr) (s s' t : State), s.SessionInv → s.SameButUnwritten s' → exec i s = .next t →
    ∃ t' : State, exec i s' = .next t' ∧ t.SameButUnwritten t'
end

