-- ==== Sys2Proof/Laws/Channel.lean ====
section
/-! SUPPORT. The channel's operations by the state of its flag (20_memory.md R61, R62). -/

namespace Sys2Proof.Machine

@[simp] theorem Channel.tryPut_free {c : Channel} (b : Byte) (h : c.full = false) :
    c.tryPut b = ({ slot := b, full := true }, true) := by simp [Channel.tryPut, h]

@[simp] theorem Channel.tryPut_full {c : Channel} (b : Byte) (h : c.full = true) : c.tryPut b = (c, false) := by
  simp [Channel.tryPut, h]

@[simp] theorem Channel.tryGet_full {c : Channel} (h : c.full = true) :
    c.tryGet = ({ c with full := false }, some c.slot) := by simp [Channel.tryGet, h]

@[simp] theorem Channel.tryGet_free {c : Channel} (h : c.full = false) : c.tryGet = (c, none) := by
  simp [Channel.tryGet, h]

end Sys2Proof.Machine
end

