-- ==== Sys2Proof/Laws/Checksum.lean ====
section
/-! SUPPORT. The laws of the checksum calculator (40_checksum.md). -/

namespace Sys2Proof.Machine

/-- Folding one more byte at the end. -/
@[simp] theorem chkAcc_append (v : ChkVariant) (len : Byte) (data : List Byte) (b : Byte) :
    chkAcc v len (data ++ [b]) = chkFold v (chkAcc v len data) b := by
  simp [chkAcc]

@[simp] theorem chkAcc_nil (v : ChkVariant) (len : Byte) : chkAcc v len [] = chkSeed v len := rfl

/-- A byte widened to an accumulator has a zero upper byte. -/
theorem setWidth_high (b : Byte) : (b.setWidth 16 : Word).extractLsb' 8 8 = 0 := by
  ext i hi
  simp

/-- The XOR seed has a zero upper byte (40_checksum.md R102). -/
theorem chkSeed_xor_high (len : Byte) : (chkSeed .xor len).extractLsb' 8 8 = 0 := setWidth_high _

/-- An XOR fold keeps the upper byte (40_checksum.md R102). -/
theorem chkFold_xor_high (acc : Word) (b : Byte) :
    (chkFold .xor acc b).extractLsb' 8 8 = acc.extractLsb' 8 8 := by
  ext i hi
  simp [chkFold]

/-- The final byte is the low 8 bits as a number (40_checksum.md R105). -/
theorem chkFinal_toNat (acc : Word) : (chkFinal acc).toNat = acc.toNat % 256 := by
  simp [chkFinal]

end Sys2Proof.Machine
end

