-- ==== Sys2Proof/Laws/State.lean ====
section
/-! SUPPORT. What each named update of the state does to each field: one lemma per field per update, true by
unfolding, for simp. -/

namespace Sys2Proof.Machine

@[simp] theorem respond_params (w : Word) (s : State) : (respond w s).params = s.params := rfl
@[simp] theorem respond_txState (w : Word) (s : State) : (respond w s).txState = s.txState := rfl
@[simp] theorem respond_txLen (w : Word) (s : State) : (respond w s).txLen = s.txLen := rfl
@[simp] theorem respond_txCursor (w : Word) (s : State) : (respond w s).txCursor = s.txCursor := rfl
@[simp] theorem respond_txAcc (w : Word) (s : State) : (respond w s).txAcc = s.txAcc := rfl
@[simp] theorem respond_rxState (w : Word) (s : State) : (respond w s).rxState = s.rxState := rfl
@[simp] theorem respond_rxLen (w : Word) (s : State) : (respond w s).rxLen = s.rxLen := rfl
@[simp] theorem respond_rxCursor (w : Word) (s : State) : (respond w s).rxCursor = s.rxCursor := rfl
@[simp] theorem respond_rxAcc (w : Word) (s : State) : (respond w s).rxAcc = s.rxAcc := rfl
@[simp] theorem respond_rxClaimed (w : Word) (s : State) : (respond w s).rxClaimed = s.rxClaimed := rfl
@[simp] theorem respond_rxbuf (w : Word) (s : State) : (respond w s).rxbuf = s.rxbuf := rfl
@[simp] theorem respond_lastError (w : Word) (s : State) : (respond w s).lastError = s.lastError := rfl
@[simp] theorem respond_txmem (w : Word) (s : State) : (respond w s).txmem = s.txmem := rfl
@[simp] theorem respond_hostout (w : Word) (s : State) : (respond w s).hostout = s.hostout := rfl
@[simp] theorem respond_txChan (w : Word) (s : State) : (respond w s).txChan = s.txChan := rfl
@[simp] theorem respond_rxChan (w : Word) (s : State) : (respond w s).rxChan = s.rxChan := rfl
@[simp] theorem respond_held (w : Word) (s : State) : (respond w s).held = s.held := rfl
@[simp] theorem respond_pending (w : Word) (s : State) : (respond w s).pending = s.pending := rfl
@[simp] theorem respond_responses (w : Word) (s : State) : (respond w s).responses = w :: s.responses := rfl
@[simp] theorem respond_draws (w : Word) (s : State) : (respond w s).draws = s.draws := rfl

@[simp] theorem enterError_params (c : Cause) (s : State) : (enterError c s).params = s.params := rfl
@[simp] theorem enterError_txState (c : Cause) (s : State) : (enterError c s).txState = s.txState := rfl
@[simp] theorem enterError_txLen (c : Cause) (s : State) : (enterError c s).txLen = s.txLen := rfl
@[simp] theorem enterError_txCursor (c : Cause) (s : State) : (enterError c s).txCursor = s.txCursor := rfl
@[simp] theorem enterError_txAcc (c : Cause) (s : State) : (enterError c s).txAcc = s.txAcc := rfl
@[simp] theorem enterError_rxState (c : Cause) (s : State) : (enterError c s).rxState = .error := rfl
@[simp] theorem enterError_rxLen (c : Cause) (s : State) : (enterError c s).rxLen = s.rxLen := rfl
@[simp] theorem enterError_rxCursor (c : Cause) (s : State) : (enterError c s).rxCursor = s.rxCursor := rfl
@[simp] theorem enterError_rxAcc (c : Cause) (s : State) : (enterError c s).rxAcc = s.rxAcc := rfl
@[simp] theorem enterError_rxClaimed (c : Cause) (s : State) : (enterError c s).rxClaimed = s.rxClaimed := rfl
@[simp] theorem enterError_rxbuf (c : Cause) (s : State) : (enterError c s).rxbuf = s.rxbuf := rfl
@[simp] theorem enterError_lastError (c : Cause) (s : State) : (enterError c s).lastError = c := rfl
@[simp] theorem enterError_txmem (c : Cause) (s : State) : (enterError c s).txmem = s.txmem := rfl
@[simp] theorem enterError_hostout (c : Cause) (s : State) : (enterError c s).hostout = s.hostout := rfl
@[simp] theorem enterError_txChan (c : Cause) (s : State) : (enterError c s).txChan = s.txChan := rfl
@[simp] theorem enterError_rxChan (c : Cause) (s : State) : (enterError c s).rxChan = s.rxChan := rfl
@[simp] theorem enterError_held (c : Cause) (s : State) : (enterError c s).held = s.held := rfl
@[simp] theorem enterError_pending (c : Cause) (s : State) : (enterError c s).pending = s.pending := rfl
@[simp] theorem enterError_responses (c : Cause) (s : State) : (enterError c s).responses = s.responses := rfl
@[simp] theorem enterError_draws (c : Cause) (s : State) : (enterError c s).draws = s.draws := rfl

@[simp] theorem leaveError_params (s : State) : (leaveError s).params = s.params := rfl
@[simp] theorem leaveError_txState (s : State) : (leaveError s).txState = s.txState := rfl
@[simp] theorem leaveError_txLen (s : State) : (leaveError s).txLen = s.txLen := rfl
@[simp] theorem leaveError_txCursor (s : State) : (leaveError s).txCursor = s.txCursor := rfl
@[simp] theorem leaveError_txAcc (s : State) : (leaveError s).txAcc = s.txAcc := rfl
@[simp] theorem leaveError_rxState (s : State) : (leaveError s).rxState = .readLength := rfl
@[simp] theorem leaveError_rxLen (s : State) : (leaveError s).rxLen = s.rxLen := rfl
@[simp] theorem leaveError_rxCursor (s : State) : (leaveError s).rxCursor = s.rxCursor := rfl
@[simp] theorem leaveError_rxAcc (s : State) : (leaveError s).rxAcc = s.rxAcc := rfl
@[simp] theorem leaveError_rxClaimed (s : State) : (leaveError s).rxClaimed = s.rxClaimed := rfl
@[simp] theorem leaveError_rxbuf (s : State) : (leaveError s).rxbuf = s.rxbuf := rfl
@[simp] theorem leaveError_lastError (s : State) : (leaveError s).lastError = s.lastError := rfl
@[simp] theorem leaveError_txmem (s : State) : (leaveError s).txmem = s.txmem := rfl
@[simp] theorem leaveError_hostout (s : State) : (leaveError s).hostout = s.hostout := rfl
@[simp] theorem leaveError_txChan (s : State) : (leaveError s).txChan = s.txChan := rfl
@[simp] theorem leaveError_rxChan (s : State) : (leaveError s).rxChan = s.rxChan := rfl
@[simp] theorem leaveError_held (s : State) : (leaveError s).held = s.held := rfl
@[simp] theorem leaveError_pending (s : State) : (leaveError s).pending = s.pending := rfl
@[simp] theorem leaveError_responses (s : State) : (leaveError s).responses = s.responses := rfl
@[simp] theorem leaveError_draws (s : State) : (leaveError s).draws = s.draws := rfl

@[simp] theorem resetReceive_params (s : State) : (resetReceive s).params = s.params := rfl
@[simp] theorem resetReceive_txState (s : State) : (resetReceive s).txState = s.txState := rfl
@[simp] theorem resetReceive_txLen (s : State) : (resetReceive s).txLen = s.txLen := rfl
@[simp] theorem resetReceive_txCursor (s : State) : (resetReceive s).txCursor = s.txCursor := rfl
@[simp] theorem resetReceive_txAcc (s : State) : (resetReceive s).txAcc = s.txAcc := rfl
@[simp] theorem resetReceive_rxState (s : State) : (resetReceive s).rxState = .waitStart := rfl
@[simp] theorem resetReceive_rxLen (s : State) : (resetReceive s).rxLen = 0 := rfl
@[simp] theorem resetReceive_rxCursor (s : State) : (resetReceive s).rxCursor = 0 := rfl
@[simp] theorem resetReceive_rxAcc (s : State) : (resetReceive s).rxAcc = 0 := rfl
@[simp] theorem resetReceive_rxClaimed (s : State) : (resetReceive s).rxClaimed = 0 := rfl
@[simp] theorem resetReceive_rxbuf (s : State) : (resetReceive s).rxbuf = s.rxbuf := rfl
@[simp] theorem resetReceive_lastError (s : State) : (resetReceive s).lastError = s.lastError := rfl
@[simp] theorem resetReceive_txmem (s : State) : (resetReceive s).txmem = s.txmem := rfl
@[simp] theorem resetReceive_hostout (s : State) : (resetReceive s).hostout = s.hostout := rfl
@[simp] theorem resetReceive_txChan (s : State) : (resetReceive s).txChan = s.txChan := rfl
@[simp] theorem resetReceive_rxChan (s : State) : (resetReceive s).rxChan = s.rxChan := rfl
@[simp] theorem resetReceive_held (s : State) : (resetReceive s).held = s.held := rfl
@[simp] theorem resetReceive_pending (s : State) : (resetReceive s).pending = s.pending := rfl
@[simp] theorem resetReceive_responses (s : State) : (resetReceive s).responses = s.responses := rfl
@[simp] theorem resetReceive_draws (s : State) : (resetReceive s).draws = s.draws := rfl

@[simp] theorem resetBlock_params (s : State) : (resetBlock s).params = s.params := rfl
@[simp] theorem resetBlock_txState (s : State) : (resetBlock s).txState = .idle := rfl
@[simp] theorem resetBlock_txLen (s : State) : (resetBlock s).txLen = 0 := rfl
@[simp] theorem resetBlock_txCursor (s : State) : (resetBlock s).txCursor = 0 := rfl
@[simp] theorem resetBlock_txAcc (s : State) : (resetBlock s).txAcc = 0 := rfl
@[simp] theorem resetBlock_rxState (s : State) : (resetBlock s).rxState = .waitStart := rfl
@[simp] theorem resetBlock_rxLen (s : State) : (resetBlock s).rxLen = 0 := rfl
@[simp] theorem resetBlock_rxCursor (s : State) : (resetBlock s).rxCursor = 0 := rfl
@[simp] theorem resetBlock_rxAcc (s : State) : (resetBlock s).rxAcc = 0 := rfl
@[simp] theorem resetBlock_rxClaimed (s : State) : (resetBlock s).rxClaimed = 0 := rfl
@[simp] theorem resetBlock_rxbuf (s : State) : (resetBlock s).rxbuf = [] := rfl
@[simp] theorem resetBlock_lastError (s : State) : (resetBlock s).lastError = .none := rfl
@[simp] theorem resetBlock_txmem (s : State) : (resetBlock s).txmem = s.txmem := rfl
@[simp] theorem resetBlock_hostout (s : State) : (resetBlock s).hostout = s.hostout := rfl
@[simp] theorem resetBlock_txChan (s : State) : (resetBlock s).txChan = s.txChan := rfl
@[simp] theorem resetBlock_rxChan (s : State) : (resetBlock s).rxChan = s.rxChan := rfl
@[simp] theorem resetBlock_held (s : State) : (resetBlock s).held = s.held := rfl
@[simp] theorem resetBlock_pending (s : State) : (resetBlock s).pending = s.pending := rfl
@[simp] theorem resetBlock_responses (s : State) : (resetBlock s).responses = s.responses := rfl
@[simp] theorem resetBlock_draws (s : State) : (resetBlock s).draws = s.draws + 1 := rfl

@[simp] theorem hostWriteTx_params (a b : Byte) (s : State) : (hostWriteTx a b s).params = s.params := rfl
@[simp] theorem hostWriteTx_txState (a b : Byte) (s : State) : (hostWriteTx a b s).txState = s.txState := rfl
@[simp] theorem hostWriteTx_txLen (a b : Byte) (s : State) : (hostWriteTx a b s).txLen = s.txLen := rfl
@[simp] theorem hostWriteTx_txCursor (a b : Byte) (s : State) : (hostWriteTx a b s).txCursor = s.txCursor := rfl
@[simp] theorem hostWriteTx_txAcc (a b : Byte) (s : State) : (hostWriteTx a b s).txAcc = s.txAcc := rfl
@[simp] theorem hostWriteTx_rxState (a b : Byte) (s : State) : (hostWriteTx a b s).rxState = s.rxState := rfl
@[simp] theorem hostWriteTx_rxLen (a b : Byte) (s : State) : (hostWriteTx a b s).rxLen = s.rxLen := rfl
@[simp] theorem hostWriteTx_rxCursor (a b : Byte) (s : State) : (hostWriteTx a b s).rxCursor = s.rxCursor := rfl
@[simp] theorem hostWriteTx_rxAcc (a b : Byte) (s : State) : (hostWriteTx a b s).rxAcc = s.rxAcc := rfl
@[simp] theorem hostWriteTx_rxClaimed (a b : Byte) (s : State) : (hostWriteTx a b s).rxClaimed = s.rxClaimed := rfl
@[simp] theorem hostWriteTx_rxbuf (a b : Byte) (s : State) : (hostWriteTx a b s).rxbuf = s.rxbuf := rfl
@[simp] theorem hostWriteTx_lastError (a b : Byte) (s : State) : (hostWriteTx a b s).lastError = s.lastError := rfl
@[simp] theorem hostWriteTx_txmem (a b : Byte) (s : State) : (hostWriteTx a b s).txmem = s.txmem.write a.toNat b := rfl
@[simp] theorem hostWriteTx_hostout (a b : Byte) (s : State) : (hostWriteTx a b s).hostout = s.hostout := rfl
@[simp] theorem hostWriteTx_txChan (a b : Byte) (s : State) : (hostWriteTx a b s).txChan = s.txChan := rfl
@[simp] theorem hostWriteTx_rxChan (a b : Byte) (s : State) : (hostWriteTx a b s).rxChan = s.rxChan := rfl
@[simp] theorem hostWriteTx_held (a b : Byte) (s : State) : (hostWriteTx a b s).held = s.held := rfl
@[simp] theorem hostWriteTx_pending (a b : Byte) (s : State) : (hostWriteTx a b s).pending = s.pending := rfl
@[simp] theorem hostWriteTx_responses (a b : Byte) (s : State) : (hostWriteTx a b s).responses = s.responses := rfl
@[simp] theorem hostWriteTx_draws (a b : Byte) (s : State) : (hostWriteTx a b s).draws = s.draws := rfl

@[simp] theorem actNext_params (a : HostAction) (s : State) : (actNext a s).params = s.params := rfl
@[simp] theorem actNext_txState (a : HostAction) (s : State) : (actNext a s).txState = s.txState := rfl
@[simp] theorem actNext_txLen (a : HostAction) (s : State) : (actNext a s).txLen = s.txLen := rfl
@[simp] theorem actNext_txCursor (a : HostAction) (s : State) : (actNext a s).txCursor = s.txCursor := rfl
@[simp] theorem actNext_txAcc (a : HostAction) (s : State) : (actNext a s).txAcc = s.txAcc := rfl
@[simp] theorem actNext_rxState (a : HostAction) (s : State) : (actNext a s).rxState = s.rxState := rfl
@[simp] theorem actNext_rxLen (a : HostAction) (s : State) : (actNext a s).rxLen = s.rxLen := rfl
@[simp] theorem actNext_rxCursor (a : HostAction) (s : State) : (actNext a s).rxCursor = s.rxCursor := rfl
@[simp] theorem actNext_rxAcc (a : HostAction) (s : State) : (actNext a s).rxAcc = s.rxAcc := rfl
@[simp] theorem actNext_rxClaimed (a : HostAction) (s : State) : (actNext a s).rxClaimed = s.rxClaimed := rfl
@[simp] theorem actNext_rxbuf (a : HostAction) (s : State) : (actNext a s).rxbuf = s.rxbuf := rfl
@[simp] theorem actNext_lastError (a : HostAction) (s : State) : (actNext a s).lastError = s.lastError := rfl
@[simp] theorem actNext_txmem (a : HostAction) (s : State) : (actNext a s).txmem = s.txmem := rfl
@[simp] theorem actNext_hostout (a : HostAction) (s : State) : (actNext a s).hostout = s.hostout := rfl
@[simp] theorem actNext_txChan (a : HostAction) (s : State) : (actNext a s).txChan = s.txChan := rfl
@[simp] theorem actNext_rxChan (a : HostAction) (s : State) : (actNext a s).rxChan = s.rxChan := rfl
@[simp] theorem actNext_held (a : HostAction) (s : State) : (actNext a s).held = s.held := rfl
@[simp] theorem actNext_pending (a : HostAction) (s : State) : (actNext a s).pending = a :: s.pending := rfl
@[simp] theorem actNext_responses (a : HostAction) (s : State) : (actNext a s).responses = s.responses := rfl
@[simp] theorem actNext_draws (a : HostAction) (s : State) : (actNext a s).draws = s.draws := rfl

@[simp] theorem beginSend_params (len : Byte) (s : State) : (beginSend len s).params = s.params := rfl
@[simp] theorem beginSend_txState (len : Byte) (s : State) : (beginSend len s).txState = .sendStart := rfl
@[simp] theorem beginSend_txLen (len : Byte) (s : State) : (beginSend len s).txLen = len := rfl
@[simp] theorem beginSend_txCursor (len : Byte) (s : State) : (beginSend len s).txCursor = 0 := rfl
@[simp] theorem beginSend_txAcc (len : Byte) (s : State) : (beginSend len s).txAcc = chkSeed s.params.chk len := rfl
@[simp] theorem beginSend_rxState (len : Byte) (s : State) : (beginSend len s).rxState = s.rxState := rfl
@[simp] theorem beginSend_rxLen (len : Byte) (s : State) : (beginSend len s).rxLen = s.rxLen := rfl
@[simp] theorem beginSend_rxCursor (len : Byte) (s : State) : (beginSend len s).rxCursor = s.rxCursor := rfl
@[simp] theorem beginSend_rxAcc (len : Byte) (s : State) : (beginSend len s).rxAcc = s.rxAcc := rfl
@[simp] theorem beginSend_rxClaimed (len : Byte) (s : State) : (beginSend len s).rxClaimed = s.rxClaimed := rfl
@[simp] theorem beginSend_rxbuf (len : Byte) (s : State) : (beginSend len s).rxbuf = s.rxbuf := rfl
@[simp] theorem beginSend_lastError (len : Byte) (s : State) : (beginSend len s).lastError = s.lastError := rfl
@[simp] theorem beginSend_txmem (len : Byte) (s : State) : (beginSend len s).txmem = s.txmem := rfl
@[simp] theorem beginSend_hostout (len : Byte) (s : State) : (beginSend len s).hostout = s.hostout := rfl
@[simp] theorem beginSend_txChan (len : Byte) (s : State) : (beginSend len s).txChan = s.txChan := rfl
@[simp] theorem beginSend_rxChan (len : Byte) (s : State) : (beginSend len s).rxChan = s.rxChan := rfl
@[simp] theorem beginSend_held (len : Byte) (s : State) : (beginSend len s).held = s.held := rfl
@[simp] theorem beginSend_pending (len : Byte) (s : State) : (beginSend len s).pending = s.pending := rfl
@[simp] theorem beginSend_responses (len : Byte) (s : State) : (beginSend len s).responses = s.responses := rfl
@[simp] theorem beginSend_draws (len : Byte) (s : State) : (beginSend len s).draws = s.draws := rfl

@[simp] theorem takeFrame_params (s : State) : (takeFrame s).params = s.params := rfl
@[simp] theorem takeFrame_txState (s : State) : (takeFrame s).txState = s.txState := rfl
@[simp] theorem takeFrame_txLen (s : State) : (takeFrame s).txLen = s.txLen := rfl
@[simp] theorem takeFrame_txCursor (s : State) : (takeFrame s).txCursor = s.txCursor := rfl
@[simp] theorem takeFrame_txAcc (s : State) : (takeFrame s).txAcc = s.txAcc := rfl
@[simp] theorem takeFrame_rxState (s : State) : (takeFrame s).rxState = .waitStart := rfl
@[simp] theorem takeFrame_rxLen (s : State) : (takeFrame s).rxLen = 0 := rfl
@[simp] theorem takeFrame_rxCursor (s : State) : (takeFrame s).rxCursor = 0 := rfl
@[simp] theorem takeFrame_rxAcc (s : State) : (takeFrame s).rxAcc = 0 := rfl
@[simp] theorem takeFrame_rxClaimed (s : State) : (takeFrame s).rxClaimed = 0 := rfl
@[simp] theorem takeFrame_rxbuf (s : State) : (takeFrame s).rxbuf = s.rxbuf := rfl
@[simp] theorem takeFrame_lastError (s : State) : (takeFrame s).lastError = s.lastError := rfl
@[simp] theorem takeFrame_txmem (s : State) : (takeFrame s).txmem = s.txmem := rfl
@[simp] theorem takeFrame_hostout (s : State) : (takeFrame s).hostout = copyOut s s.rxLen.toNat := rfl
@[simp] theorem takeFrame_txChan (s : State) : (takeFrame s).txChan = s.txChan := rfl
@[simp] theorem takeFrame_rxChan (s : State) : (takeFrame s).rxChan = s.rxChan := rfl
@[simp] theorem takeFrame_held (s : State) : (takeFrame s).held = s.held := rfl
@[simp] theorem takeFrame_pending (s : State) : (takeFrame s).pending = s.pending := rfl
@[simp] theorem takeFrame_responses (s : State) : (takeFrame s).responses = s.responses := rfl
@[simp] theorem takeFrame_draws (s : State) : (takeFrame s).draws = s.draws := rfl

@[simp] theorem readTx_respond (w : Word) (s : State) (k : Nat) : readTx (respond w s) k = readTx s k := rfl
@[simp] theorem readRx_respond (w : Word) (s : State) (k : Nat) : readRx (respond w s) k = readRx s k := rfl
@[simp] theorem readOut_respond (w : Word) (s : State) (k : Nat) : readOut (respond w s) k = readOut s k := rfl
@[simp] theorem rxBytes_respond (w : Word) (s : State) (n : Nat) : rxBytes (respond w s) n = rxBytes s n := rfl
@[simp] theorem txBytes_respond (w : Word) (s : State) (n : Nat) : txBytes (respond w s) n = txBytes s n := rfl
@[simp] theorem readTx_enterError (c : Cause) (s : State) (k : Nat) : readTx (enterError c s) k = readTx s k := rfl
@[simp] theorem readRx_enterError (c : Cause) (s : State) (k : Nat) : readRx (enterError c s) k = readRx s k := rfl
@[simp] theorem readOut_enterError (c : Cause) (s : State) (k : Nat) : readOut (enterError c s) k = readOut s k := rfl
@[simp] theorem rxBytes_enterError (c : Cause) (s : State) (n : Nat) : rxBytes (enterError c s) n = rxBytes s n := rfl
@[simp] theorem txBytes_enterError (c : Cause) (s : State) (n : Nat) : txBytes (enterError c s) n = txBytes s n := rfl
@[simp] theorem readTx_leaveError (s : State) (k : Nat) : readTx (leaveError s) k = readTx s k := rfl
@[simp] theorem readRx_leaveError (s : State) (k : Nat) : readRx (leaveError s) k = readRx s k := rfl
@[simp] theorem readOut_leaveError (s : State) (k : Nat) : readOut (leaveError s) k = readOut s k := rfl
@[simp] theorem rxBytes_leaveError (s : State) (n : Nat) : rxBytes (leaveError s) n = rxBytes s n := rfl
@[simp] theorem txBytes_leaveError (s : State) (n : Nat) : txBytes (leaveError s) n = txBytes s n := rfl
@[simp] theorem readTx_resetReceive (s : State) (k : Nat) : readTx (resetReceive s) k = readTx s k := rfl
@[simp] theorem readRx_resetReceive (s : State) (k : Nat) : readRx (resetReceive s) k = readRx s k := rfl
@[simp] theorem readOut_resetReceive (s : State) (k : Nat) : readOut (resetReceive s) k = readOut s k := rfl
@[simp] theorem rxBytes_resetReceive (s : State) (n : Nat) : rxBytes (resetReceive s) n = rxBytes s n := rfl
@[simp] theorem txBytes_resetReceive (s : State) (n : Nat) : txBytes (resetReceive s) n = txBytes s n := rfl
@[simp] theorem readTx_resetBlock (s : State) (k : Nat) : readTx (resetBlock s) k = readTx s k := rfl
@[simp] theorem readOut_resetBlock (s : State) (k : Nat) : readOut (resetBlock s) k = readOut s k := rfl
@[simp] theorem txBytes_resetBlock (s : State) (n : Nat) : txBytes (resetBlock s) n = txBytes s n := rfl
@[simp] theorem readRx_hostWriteTx (a b : Byte) (s : State) (k : Nat) : readRx (hostWriteTx a b s) k = readRx s k := rfl
@[simp] theorem readOut_hostWriteTx (a b : Byte) (s : State) (k : Nat) : readOut (hostWriteTx a b s) k = readOut s k := rfl
@[simp] theorem rxBytes_hostWriteTx (a b : Byte) (s : State) (n : Nat) : rxBytes (hostWriteTx a b s) n = rxBytes s n := rfl
@[simp] theorem readTx_actNext (a : HostAction) (s : State) (k : Nat) : readTx (actNext a s) k = readTx s k := rfl
@[simp] theorem readRx_actNext (a : HostAction) (s : State) (k : Nat) : readRx (actNext a s) k = readRx s k := rfl
@[simp] theorem readOut_actNext (a : HostAction) (s : State) (k : Nat) : readOut (actNext a s) k = readOut s k := rfl
@[simp] theorem rxBytes_actNext (a : HostAction) (s : State) (n : Nat) : rxBytes (actNext a s) n = rxBytes s n := rfl
@[simp] theorem txBytes_actNext (a : HostAction) (s : State) (n : Nat) : txBytes (actNext a s) n = txBytes s n := rfl
@[simp] theorem readTx_beginSend (len : Byte) (s : State) (k : Nat) : readTx (beginSend len s) k = readTx s k := rfl
@[simp] theorem readRx_beginSend (len : Byte) (s : State) (k : Nat) : readRx (beginSend len s) k = readRx s k := rfl
@[simp] theorem readOut_beginSend (len : Byte) (s : State) (k : Nat) : readOut (beginSend len s) k = readOut s k := rfl
@[simp] theorem rxBytes_beginSend (len : Byte) (s : State) (n : Nat) : rxBytes (beginSend len s) n = rxBytes s n := rfl
@[simp] theorem txBytes_beginSend (len : Byte) (s : State) (n : Nat) : txBytes (beginSend len s) n = txBytes s n := rfl
@[simp] theorem readTx_takeFrame (s : State) (k : Nat) : readTx (takeFrame s) k = readTx s k := rfl
@[simp] theorem readRx_takeFrame (s : State) (k : Nat) : readRx (takeFrame s) k = readRx s k := rfl
@[simp] theorem rxBytes_takeFrame (s : State) (n : Nat) : rxBytes (takeFrame s) n = rxBytes s n := rfl
@[simp] theorem txBytes_takeFrame (s : State) (n : Nat) : txBytes (takeFrame s) n = txBytes s n := rfl

end Sys2Proof.Machine
end

