-- ==== Sys2Proof/Laws/Memory.lean ====
section
/-! SUPPORT. The laws of the byte memories: reading after writing, the canonical form, and the copy loop of
RX_TAKE (20_memory.md R51, 43_collect_control.md R190). -/

namespace Sys2Proof.Machine

/-- A cell reads as what was last written to it. -/
@[simp] theorem Memory.read_write_same (m : Memory) (a : Nat) (b : Byte) : (Memory.write m a b).read a = some b := by
  induction m with
  | nil => simp [Memory.write, Memory.read]
  | cons c m ih =>
    obtain ⟨a', b'⟩ := c
    simp only [Memory.write]
    split
    · simp [Memory.read]
    · split
      · simp [Memory.read]
      · simp [Memory.read, *]

/-- A write changes no other cell. -/
theorem Memory.read_write_other (m : Memory) {a k : Nat} (b : Byte) (h : k ≠ a) :
    (Memory.write m a b).read k = m.read k := by
  induction m with
  | nil => simp [Memory.write, Memory.read, h]
  | cons c m ih =>
    obtain ⟨a', b'⟩ := c
    simp only [Memory.write]
    split
    · simp [Memory.read, h]
    · split
      · rename_i h1
        subst h1
        simp [Memory.read, h]
      · simp [Memory.read, ih]

/-- The addresses a write lists: the ones listed before, and its own. -/
theorem Memory.mem_write {m : Memory} {a : Nat} {b : Byte} {c : Host.Cell} (h : c ∈ Memory.write m a b) :
    c.1 = a ∨ c ∈ m := by
  induction m with
  | nil => simp_all [Memory.write]
  | cons d m ih =>
    obtain ⟨a', b'⟩ := d
    simp only [Memory.write] at h
    split at h
    · rcases List.mem_cons.1 h with rfl | h
      · exact .inl rfl
      · exact .inr h
    · split at h
      · rcases List.mem_cons.1 h with rfl | h
        · exact .inl rfl
        · exact .inr (List.mem_cons_of_mem _ h)
      · rcases List.mem_cons.1 h with rfl | h
        · exact .inr List.mem_cons_self
        · exact (ih h).imp_right (List.mem_cons_of_mem _)

/-- A write keeps the canonical form. -/
theorem Memory.wf_write {m : Memory} (a : Nat) (b : Byte) (h : m.wf) : (Memory.write m a b).wf := by
  induction m with
  | nil => simp [Memory.write, Memory.wf]
  | cons d m ih =>
    obtain ⟨a', b'⟩ := d
    obtain ⟨h1, h2⟩ := List.pairwise_cons.1 h
    simp only [Memory.write]
    split
    · rename_i hlt
      refine List.pairwise_cons.2 ⟨fun c hc => ?_, h⟩
      rcases List.mem_cons.1 hc with rfl | hc
      · exact hlt
      · exact lt_trans hlt (h1 c hc)
    · split
      · rename_i heq
        subst heq
        exact List.pairwise_cons.2 ⟨h1, h2⟩
      · refine List.pairwise_cons.2 ⟨fun c hc => ?_, ih h2⟩
        rcases Memory.mem_write hc with he | hc
        · simp only at *; omega
        · exact h1 c hc

/-- RXBUF after a store inside it, whatever else the step writes beside the parameters and the reset count. -/
theorem readRx_write {s t : State} {n : Nat} {b : Byte} (hb : t.rxbuf = s.rxbuf.write n b)
    (hp : t.params = s.params) (hd : t.draws = s.draws) (hn : n < s.params.maxPayload.toNat) (a : Nat) :
    readRx t a = if a = n then b else readRx s a := by
  simp only [readRx, hb, hp, hd]
  by_cases h : a = n
  · subst h; simp [hn]
  · simp [h, Memory.read_write_other _ _ h]

/-- RXBUF reads the same when its cells, the parameters and the reset count are the same. -/
theorem readRx_congr {s t : State} (hb : t.rxbuf = s.rxbuf) (hp : t.params = s.params) (hd : t.draws = s.draws)
    (a : Nat) : readRx t a = readRx s a := by
  simp only [readRx, hb, hp, hd]

/-- What HOSTOUT holds after the copy of `n` bytes: RXBUF's bytes below `n`, its own from `n` up. -/
theorem copyOut_read (s : State) (n k : Nat) :
    (copyOut s n).read k = if k < n then some (readRx s k) else s.hostout.read k := by
  induction n with
  | zero => simp [copyOut]
  | succ n ih =>
    by_cases hk : k = n
    · subst hk; simp [copyOut]
    · simp only [copyOut, Memory.read_write_other _ _ hk, ih]
      have : k < n + 1 ↔ k < n := by omega
      simp [this]

/-- The copy keeps the canonical form. -/
theorem copyOut_wf {s : State} (h : s.hostout.wf) (n : Nat) : (copyOut s n).wf := by
  induction n with
  | zero => exact h
  | succ n ih => exact Memory.wf_write _ _ ih

/-- The copy lists no address but HOSTOUT's own and those below `n`. -/
theorem copyOut_mem {s : State} {n : Nat} {c : Host.Cell} (h : c ∈ copyOut s n) : c.1 < n ∨ c ∈ s.hostout := by
  induction n with
  | zero => exact .inr h
  | succ n ih =>
    rcases Memory.mem_write h with h | h
    · left; omega
    · exact (ih h).imp_left (by omega)

/-- A reset leaves every memory canonical when it was. -/
theorem resetBlock_wf {s : State} (ht : s.txmem.wf) (ho : s.hostout.wf) :
    (resetBlock s).txmem.wf ∧ (resetBlock s).rxbuf.wf ∧ (resetBlock s).hostout.wf :=
  ⟨ht, List.Pairwise.nil, ho⟩

/-- The memories of the power-on state are canonical. -/
theorem reset_memory_wf : State.reset.txmem.wf ∧ State.reset.rxbuf.wf ∧ State.reset.hostout.wf := by decide

end Sys2Proof.Machine
end

