-- ==== Sys2Proof/Laws/Exec.lean ====
section
/-! SUPPORT. Inversion lemmas: everything a command, an arm of the parser or a step can do, said once. -/

namespace Sys2Proof.Machine

/-- What TX_BEGIN does when it answers (41_transmit.md R120). -/
theorem execTxBegin_next {len : Byte} {s t : State} (h : execTxBegin len s = .next t) :
    ¬ s.params.maxPayload < len ∧
      ((s.txState.busy = true ∧ t = respond (txBeginResponse false) s) ∨
        (s.txState.busy = false ∧ t = respond (txBeginResponse true) (beginSend len s))) := by
  unfold execTxBegin at h
  split at h
  · cases h
  · rename_i hl
    split at h <;> cases h
    · exact ⟨hl, .inl ⟨‹_›, rfl⟩⟩
    · exact ⟨hl, .inr ⟨Bool.eq_false_iff.2 ‹_›, rfl⟩⟩

/-- The arms of TX_STEP that produce a byte: the state they run in, and what they give
(41_transmit.md R123 to R127). -/
def txArm (s : State) : State × Byte → Prop := fun r =>
  (s.txState = .sendStart ∧ r = sendStart s) ∨ (s.txState = .sendLength ∧ r = sendLength s) ∨
    (s.txState = .sendData ∧ s.txCursor < s.txLen ∧ r = sendData s) ∨
    (s.txState = .sendChecksum ∧ r = sendChecksum s) ∨ (s.txState = .sendEnd ∧ r = sendEnd s)

/-- What TX_STEP does when it answers (41_transmit.md R121). -/
theorem execTxStep_next {g : Bool} {s t : State} (h : execTxStep g s = .next t) :
    ((s.txState = .idle ∨ (s.txState.busy = true ∧ g = false)) ∧ t = respond (txStepResponse none) s) ∨
      (s.txState = .done ∧ t = respond (txStepResponse none) { s with txState := .idle }) ∨
      (g = true ∧ ∃ r, txArm s r ∧ t = respond (txStepResponse (some r.2)) r.1) := by
  unfold execTxStep at h
  cases g <;> cases hs : s.txState <;>
    simp only [hs, produce, produceNothing, Bool.false_eq_true, if_false, if_true] at h
  case true.sendData =>
    split at h <;> cases h
    exact .inr (.inr ⟨rfl, _, by simp [txArm, hs]; assumption, rfl⟩)
  all_goals cases h
  all_goals first
    | exact .inl ⟨by simp [TxState.busy], rfl⟩
    | exact .inr (.inl ⟨rfl, rfl⟩)
    | exact .inr (.inr ⟨rfl, _, by simp [txArm, hs], rfl⟩)

/-- What an arm of RX_BYTE can do (42_receive.md R151 to R159), by the old `rx_state`. -/
theorem rxArm_some {b : Byte} {s : State} {o : RxOut} (h : rxArm b s = some o) :
    ((s.rxState = .waitStart ∨ s.rxState = .error) ∧ b ≠ stx ∧ o = rxDiscard s) ∨
      (s.rxState = .waitStart ∧ b = stx ∧ o = rxPlain { s with rxState := .readLength }) ∨
      (s.rxState = .error ∧ b = stx ∧
        o = { state := leaveError s, discarded := false, resync := true, cause := .none }) ∨
      (s.rxState = .readLength ∧ o = rxReadLength b s) ∨ (s.rxState = .readData ∧ o = rxReadData b s) ∨
      (s.rxState = .readChecksum ∧ o = rxReadChecksum b s) ∨ (s.rxState = .waitEnd ∧ o = rxWaitEnd b s) := by
  unfold rxArm at h
  cases hs : s.rxState <;> simp only [hs] at h <;> cases h <;> by_cases hb : b = stx <;>
    simp [rxWaitStart, rxResync, hb]

/-- RX_BYTE always answers: in `Ready` it refuses the byte, else the arm of the old state runs
(42_receive.md R150, R158). -/
theorem execRxByte_next {b : Byte} {s t : State} (h : execRxByte b s = .next t) :
    (s.rxState = .ready ∧ t = respond (rxByteResponse false .ready false false .none) s) ∨
      ∃ o, rxArm b s = some o ∧
        t = respond (rxByteResponse true o.state.rxState o.discarded o.resync o.cause) o.state := by
  unfold execRxByte at h
  cases ha : rxArm b s with
  | some o => simp only [ha] at h; cases h; exact .inr ⟨o, rfl, rfl⟩
  | none =>
    simp only [ha] at h
    cases h
    cases hs : s.rxState <;> simp [rxArm, hs] at ha
    exact .inl ⟨rfl, rfl⟩

/-- An arm of RX_BYTE changes nothing but the receive session, RXBUF and `last_error`, and RXBUF by at most one
write at the cursor (42_receive.md R151 to R159). -/
theorem rxArm_frame {b : Byte} {s : State} {o : RxOut} (h : rxArm b s = some o) :
    o.state = { s with
      rxState := o.state.rxState, rxLen := o.state.rxLen, rxCursor := o.state.rxCursor, rxAcc := o.state.rxAcc,
      rxClaimed := o.state.rxClaimed, rxbuf := o.state.rxbuf, lastError := o.state.lastError } ∧
    (o.state.rxbuf = s.rxbuf ∨
      (s.rxState = .readData ∧ s.rxCursor < s.rxLen ∧ s.rxCursor < s.params.maxPayload ∧
        o.state.rxbuf = s.rxbuf.write s.rxCursor.toNat b)) := by
  rcases rxArm_some h with
    ⟨_, _, rfl⟩ | ⟨_, _, rfl⟩ | ⟨_, _, rfl⟩ | ⟨_, rfl⟩ | ⟨hs, rfl⟩ | ⟨_, rfl⟩ | ⟨_, rfl⟩
  · exact ⟨rfl, .inl rfl⟩
  · exact ⟨rfl, .inl rfl⟩
  · exact ⟨rfl, .inl rfl⟩
  · unfold rxReadLength; split <;> exact ⟨rfl, .inl rfl⟩
  · unfold rxReadData
    split
    · exact ⟨rfl, .inl rfl⟩
    · rename_i hg
      simp only [not_or, BitVec.not_le] at hg
      exact ⟨rfl, .inr ⟨hs, hg.1, hg.2, rfl⟩⟩
  · unfold rxReadChecksum rxReadChecksumDeferred rxReadChecksumEarly
    repeat' split
    all_goals exact ⟨rfl, .inl rfl⟩
  · unfold rxWaitEnd rxWaitEndDeferred rxWaitEndEarly
    repeat' split
    all_goals exact ⟨rfl, .inl rfl⟩

/-- RX_BYTE runs the arm of the old state (42_receive.md R150). -/
theorem exec_rxByte_of_arm {b : Byte} {s : State} {o : RxOut} (h : rxArm b s = some o) :
    exec (.rxByte b) s =
      .next (respond (rxByteResponse true o.state.rxState o.discarded o.resync o.cause) o.state) := by
  simp [exec, execRxByte, h]

/-- RX_BYTE never faults (42_receive.md R150: "Exceptions: none"). -/
theorem exec_rxByte_answers (b : Byte) (s : State) : ∃ t, exec (.rxByte b) s = .next t := by
  simp only [exec, execRxByte]
  split <;> exact ⟨_, rfl⟩

/-- RX_TAKE never faults (43_collect_control.md R190: "Exceptions: none"). -/
theorem exec_rxTake_answers (cap : Byte) (s : State) : ∃ t, exec (.rxTake cap) s = .next t := by
  simp only [exec, execRxTake, takeNothing]
  repeat' split
  all_goals exact ⟨_, rfl⟩

/-- What RX_TAKE does when it answers (43_collect_control.md R190). -/
theorem execRxTake_next {cap : Byte} {s t : State} (h : execRxTake cap s = .next t) :
    ((s.rxState ≠ .ready ∨ cap < s.rxLen) ∧ t = respond (rxTakeResponse none) s) ∨
      (s.rxState = .ready ∧ ¬ cap < s.rxLen ∧
        t = respond (rxTakeResponse (some s.rxLen)) (takeFrame s)) := by
  unfold execRxTake at h
  cases hs : s.rxState <;> simp only [hs, takeNothing] at h
  case ready =>
    split at h
    · cases h; exact .inl ⟨.inr ‹_›, rfl⟩
    · cases h; exact .inr ⟨rfl, ‹_›, rfl⟩
  all_goals cases h; exact .inl ⟨.inl (by simp), rfl⟩

/-- Everything a command can do when it answers, by the parts of the state it writes: nothing but the response;
the block's reset; the start of a send; the transmit session; one arm of the parser; a collection
(43_collect_control.md R190 to R193, 41_transmit.md R120, R121, 42_receive.md R150). -/
theorem exec_next {i : Instr} {s t : State} (h : exec i s = .next t) :
    (∃ w, t = respond w s) ∨ (i = .reset ∧ t = respond zeroResponse (resetBlock s)) ∨
    (∃ len, i = .txBegin len ∧ ¬ s.params.maxPayload < len ∧ t = respond (txBeginResponse true) (beginSend len s)) ∨
    (s.txState = .done ∧ (∃ g, i = .txStep g) ∧ t = respond (txStepResponse none) { s with txState := .idle }) ∨
    (∃ r, i = .txStep true ∧ txArm s r ∧ t = respond (txStepResponse (some r.2)) r.1) ∨
    (∃ b o w, i = .rxByte b ∧ rxArm b s = some o ∧ t = respond w o.state) ∨
    (∃ cap w, i = .rxTake cap ∧ s.rxState = .ready ∧ ¬ cap < s.rxLen ∧ t = respond w (takeFrame s)) := by
  cases i <;> simp only [exec] at h
  case nop => cases h; exact .inl ⟨_, rfl⟩
  case status => cases h; exact .inl ⟨_, rfl⟩
  case reset => cases h; exact .inr (.inl ⟨rfl, rfl⟩)
  case txBegin len =>
    obtain ⟨hl, ⟨_, rfl⟩ | ⟨_, rfl⟩⟩ := execTxBegin_next h
    · exact .inl ⟨_, rfl⟩
    · exact .inr (.inr (.inl ⟨_, rfl, hl, rfl⟩))
  case txStep g =>
    rcases execTxStep_next h with ⟨_, rfl⟩ | ⟨hs, rfl⟩ | ⟨rfl, r, hr, rfl⟩
    · exact .inl ⟨_, rfl⟩
    · exact .inr (.inr (.inr (.inl ⟨hs, ⟨g, rfl⟩, rfl⟩)))
    · exact .inr (.inr (.inr (.inr (.inl ⟨r, rfl, hr, rfl⟩))))
  case rxByte b =>
    rcases execRxByte_next h with ⟨_, rfl⟩ | ⟨o, ho, rfl⟩
    · exact .inl ⟨_, rfl⟩
    · exact .inr (.inr (.inr (.inr (.inr (.inl ⟨b, o, _, rfl, ho, rfl⟩)))))
  case rxTake cap =>
    rcases execRxTake_next h with ⟨_, rfl⟩ | ⟨hs, hc, rfl⟩
    · exact .inl ⟨_, rfl⟩
    · exact .inr (.inr (.inr (.inr (.inr (.inr ⟨cap, _, rfl, hs, hc, rfl⟩)))))

/-- A step takes the oldest pending action, or leaves the state as it is. -/
theorem step_next {s t : State} (h : step s = .next t) :
    (s.pending = [] ∧ t = s) ∨
      ∃ a rest, s.pending = a :: rest ∧ perform a { s with pending := rest } = .next t := by
  unfold step stepPending at h
  cases hp : s.pending with
  | nil => simp only [hp] at h; cases h; exact .inl ⟨rfl, rfl⟩
  | cons a rest => simp only [hp] at h; exact .inr ⟨a, rest, rfl, h⟩

/-- What a command word does when the step answers: the command it spells runs. -/
theorem issue_next {w : Word} {s t : State} (h : issue w s = .next t) :
    ∃ i, decode w = .ok i ∧ exec i s = .next t := by
  unfold issue at h
  cases hd : decode w with
  | ok i => simp only [hd] at h; exact ⟨i, rfl, h⟩
  | error e => simp only [hd] at h; cases h

/-- What moving a byte out does when it answers (20_memory.md R65): it waits, or runs TX_STEP with the gate
open and delivers. -/
theorem moveOut_next {s t : State} (h : moveOut s = .next t) :
    (s.txChan.full = true ∧ t = s) ∨
      (s.txChan.full = false ∧ ∃ u, exec (.txStep true) s = .next u ∧ t = deliver u) := by
  unfold moveOut at h
  split at h
  · cases h; exact .inl ⟨‹_›, rfl⟩
  · split at h <;> cases h
    exact .inr ⟨Bool.eq_false_iff.2 ‹_›, _, ‹_›, rfl⟩

/-- What offering a byte does when it answers (20_memory.md R65): RX_BYTE runs, and the byte is kept or not. -/
theorem offer_next {b : Byte} {s t : State} (h : offer b s = .next t) :
    ∃ u, exec (.rxByte b) s = .next u ∧ t = keep b u := by
  unfold offer at h
  split at h <;> cases h
  exact ⟨_, ‹_›, rfl⟩

/-- What moving a byte in does when it answers (20_memory.md R65): it waits, or offers the byte kept before or
the channel's. -/
theorem moveIn_next {s t : State} (h : moveIn s = .next t) :
    (∃ b, s.held = some b ∧ offer b s = .next t) ∨ (s.held = none ∧ s.rxChan.full = false ∧ t = s) ∨
      (s.held = none ∧ s.rxChan.full = true ∧
        offer s.rxChan.slot { s with rxChan := { s.rxChan with full := false } } = .next t) := by
  unfold moveIn at h
  cases hh : s.held with
  | some b => simp only [hh] at h; exact .inl ⟨b, rfl, h⟩
  | none =>
    cases hf : s.rxChan.full with
    | false =>
      simp only [hh, Channel.tryGet_free hf] at h
      cases h
      exact .inr (.inl ⟨rfl, rfl, rfl⟩)
    | true =>
      simp only [hh, Channel.tryGet_full hf] at h
      exact .inr (.inr ⟨rfl, rfl, h⟩)

/-- Delivering changes at most the framer's channel. -/
theorem deliver_eq (s : State) : ∃ c, deliver s = { s with txChan := c } := by
  unfold deliver
  split
  · split
    · exact ⟨_, rfl⟩
    · exact ⟨s.txChan, rfl⟩
  · exact ⟨s.txChan, rfl⟩

/-- Keeping changes at most the byte the host holds. -/
theorem keep_eq (b : Byte) (s : State) : ∃ h, keep b s = { s with held := h } := by
  unfold keep
  split
  · exact ⟨_, rfl⟩
  · exact ⟨s.held, rfl⟩

/-- What happens at the other side of a channel changes at most the two channels. -/
theorem linkState_eq (c : ChannelId) (e : LinkEvent) (s : State) :
    ∃ x y, linkState c e s = { s with txChan := x, rxChan := y } := by
  cases c
  · exact ⟨_, s.rxChan, rfl⟩
  · exact ⟨s.txChan, _, rfl⟩

end Sys2Proof.Machine
end

