-- ==== Sys2Proof/Laws/Flags.lean ====
section
/-! SUPPORT. The response words as numbers, so that no proof evaluates a concatenation again
(30_encoding.md R88 to R92). -/

namespace Sys2Proof.Machine

/-- The response of a TX_STEP that produced a byte is `0x0100 | byte` (41_transmit.md R121). -/
theorem txStepResponse_some (b : Byte) : txStepResponse (some b) = 0x0100 ||| b.setWidth 16 := by
  revert b; decide

@[simp] theorem txStepResponse_stx : txStepResponse (some stx) = 0x0102 := by decide
@[simp] theorem txStepResponse_etx : txStepResponse (some etx) = 0x0103 := by decide
@[simp] theorem txStepResponse_none : txStepResponse none = 0x0000 := rfl

/-- The host reads back the byte a TX_STEP produced (30_encoding.md R89). -/
@[simp] theorem txProduced_some (b : Byte) : txProduced (txStepResponse (some b)) = some b := by
  revert b; decide

@[simp] theorem txProduced_none : txProduced (txStepResponse none) = none := rfl

@[simp] theorem txProduced_txBegin (ok : Bool) : txProduced (txBeginResponse ok) = none := by
  revert ok; decide

@[simp] theorem txBeginResponse_true : txBeginResponse true = 0x0001 := rfl
@[simp] theorem txBeginResponse_false : txBeginResponse false = 0x0000 := rfl

/-- The response of a collection is `0x0100 | len` (43_collect_control.md R190). -/
theorem rxTakeResponse_some (len : Byte) : rxTakeResponse (some len) = 0x0100 ||| len.setWidth 16 := by
  revert len; decide

@[simp] theorem rxTakeResponse_none : rxTakeResponse none = 0x0000 := rfl

/-- A byte that was not accepted (42_receive.md R158). -/
@[simp] theorem rxByteResponse_ready : rxByteResponse false .ready false false .none = 0x0002 := by decide

/-- A byte that completed a frame (30_encoding.md R90). -/
@[simp] theorem rxByteResponse_complete : rxByteResponse true .ready false false .none = 0x0003 := by decide

/-- A byte after which the parser is assembling, or waits for a frame (30_encoding.md R90). -/
theorem rxByteResponse_assembling {st : RxState} (h : sigOf st = 0) :
    rxByteResponse true st false false .none = 0x0001 := by
  revert h; cases st <;> decide

/-- Noise in `WaitStart` and in `Error`, and a resync (42_receive.md R151, R159). -/
@[simp] theorem rxByteResponse_noise : rxByteResponse true .waitStart true false .none = 0x0009 := by decide
@[simp] theorem rxByteResponse_noiseInError : rxByteResponse true .error true false .none = 0x000D := by decide
@[simp] theorem rxByteResponse_resync : rxByteResponse true .readLength false true .none = 0x0011 := by decide

/-- The four errors (60_exceptions.md R210). -/
@[simp] theorem rxByteResponse_lengthOverflow :
    rxByteResponse true .error false false .lengthOverflow = 0x0025 := by decide
@[simp] theorem rxByteResponse_bufferOverrun :
    rxByteResponse true .error false false .bufferOverrun = 0x0045 := by decide
@[simp] theorem rxByteResponse_checksumMismatch :
    rxByteResponse true .error false false .checksumMismatch = 0x0065 := by decide
@[simp] theorem rxByteResponse_framingError :
    rxByteResponse true .error false false .framingError = 0x0085 := by decide

/-- Every field of an RX_BYTE response (30_encoding.md R90). -/
theorem rxByteResponse_fields (a : Bool) (st : RxState) (d r : Bool) (c : Cause) :
    (rxByteResponse a st d r c).getLsbD 0 = a ∧ (rxByteResponse a st d r c).extractLsb' 1 2 = sigOf st ∧
    (rxByteResponse a st d r c).getLsbD 3 = d ∧ (rxByteResponse a st d r c).getLsbD 4 = r ∧
    (rxByteResponse a st d r c).extractLsb' 5 3 = c.code ∧
    (rxByteResponse a st d r c).extractLsb' 8 8 = 0 := by
  cases a <;> cases st <;> cases d <;> cases r <;> cases c <;> decide

/-- The `accepted` bit is what the block was told to answer (30_encoding.md R90). -/
@[simp] theorem rxAccepted_response (a : Bool) (st : RxState) (d r : Bool) (c : Cause) :
    rxAccepted (rxByteResponse a st d r c) = a :=
  (rxByteResponse_fields a st d r c).1

end Sys2Proof.Machine
end

