-- ==== Sys2Proof/Laws/PerInstr.lean ====
section
/-! SUPPORT. The per-instruction family `CommandWord`: a command's word carries its `op` in bits 15:12, zeros in
the reserved bits 11:8 and its `arg` in bits 7:0 (30_encoding.md R80). -/

namespace Sys2Proof.Laws.CommandWord

open Sys2Proof Sys2Proof.Machine

/-- The three fields of a command's word (30_encoding.md R80). -/
def Statement (i : Instr) : Prop :=
  wordOp (encode i) = i.op ∧ wordRsv (encode i) = 0 ∧ wordArg (encode i) = i.arg

/-- The fields of a packed word. -/
theorem packWord_fields (op : BitVec 4) (arg : Byte) :
    wordOp (packWord op arg) = op ∧ wordRsv (packWord op arg) = 0 ∧ wordArg (packWord op arg) = arg := by
  refine ⟨?_, ?_, ?_⟩ <;> apply BitVec.eq_of_getLsbD_eq <;> intro i hi <;>
    simp only [wordOp, wordRsv, wordArg, packWord, BitVec.getLsbD_extractLsb', BitVec.getLsbD_append, hi]
  · simp [show ¬ 12 + i < 8 by omega, show ¬ 12 + i - 8 < 4 by omega, show 12 + i - 8 - 4 = i by omega]
  · simp [show ¬ 8 + i < 8 by omega, hi]
  · simp [hi]

theorem nop : Statement .nop := packWord_fields _ _
theorem txBegin (len : Byte) : Statement (.txBegin len) := packWord_fields _ _
theorem txStep (outReady : Bool) : Statement (.txStep outReady) := packWord_fields _ _
theorem rxByte (b : Byte) : Statement (.rxByte b) := packWord_fields _ _
theorem rxTake (cap : Byte) : Statement (.rxTake cap) := packWord_fields _ _
theorem status : Statement .status := packWord_fields _ _
theorem reset : Statement .reset := packWord_fields _ _

end Sys2Proof.Laws.CommandWord
end

