-- ==== Sys2Proof/Laws/Run.lean ====
section
/-! SUPPORT. The laws of sequences of commands (70_reset_and_hazards.md R251). -/

namespace Sys2Proof.Machine

/-- A sequence whose first command answers goes on from its answer. -/
theorem execAll_cons {i : Instr} {s t : State} {rest : List Instr} (h : exec i s = .next t) :
    execAll (i :: rest) s = execAll rest t := by
  simp [execAll, h]

/-- A sequence whose first part answers goes on from its answer. -/
theorem execAll_append {first rest : List Instr} {s t : State} (h : execAll first s = .next t) :
    execAll (first ++ rest) s = execAll rest t := by
  induction first generalizing s with
  | nil => simp only [execAll, Host.Outcome.next.injEq] at h; subst h; rfl
  | cons i l ih =>
    simp only [execAll] at h
    cases he : exec i s with
    | next u => rw [he] at h; rw [List.cons_append, execAll_cons he]; exact ih h
    | fault f => simp [he] at h
    | refused r => simp [he] at h

/-- Bytes offered in two parts. -/
@[simp] theorem feed_append (a b : List Byte) : feed (a ++ b) = feed a ++ feed b := by simp [feed]

end Sys2Proof.Machine
end

