-- ==== Sys2Proof/Tests/Slice0.lean ====
section
/-! SUPPORT. The model's own tests. Expected values come from spec/: encodings from 30_encoding.md R80 to R96 and
the vectors of 95_test_vectors.md, named in each comment. After them, one witness per statement with hypotheses:
states and operands that meet them, clause by clause and at the ends of their ranges. -/

namespace Sys2Proof.Tests

open Sys2Proof Sys2Proof.Machine

/-! ## Helpers -/

/-- The power-on state with given parameters and empty channels. -/
def block (max : Byte) (v : ChkVariant) (t : RxTopology) : State :=
  { State.reset with
    params := { maxPayload := max, chk := v, topology := t }
    txChan := { slot := 0, full := false }, rxChan := { slot := 0, full := false } }

/-- The common case of 95_test_vectors.md: XOR, DEFERRED, MAX_PAYLOAD 200. -/
def block200 : State := block 200 .xor .deferred

/-- `tx(state, len, cursor, acc)` of 95_test_vectors.md. -/
def tx (st : TxState) (len cur : Byte) (acc : Word) (s : State) : State :=
  { s with txState := st, txLen := len, txCursor := cur, txAcc := acc }

/-- `rx(state, len, cursor, acc, claimed)` of 95_test_vectors.md. -/
def rx (st : RxState) (len cur : Byte) (acc : Word) (claimed : Byte) (s : State) : State :=
  { s with rxState := st, rxLen := len, rxCursor := cur, rxAcc := acc, rxClaimed := claimed }

/-- The payload `41 42 43` of V-S1 in a memory. -/
def abc : Memory := [(0, 0x41), (1, 0x42), (2, 0x43)]

/-- The response and the transmit session after a command. -/
def txSeen : Host.Outcome State Fault Refusal → Option (Word × TxState × Byte × Byte × Word)
  | .next s => s.responses.head?.map fun w => (w, s.txState, s.txLen, s.txCursor, s.txAcc)
  | .fault _ => none
  | .refused _ => none

/-- The response, the receive session and `last_error` after a command. -/
def rxSeen : Host.Outcome State Fault Refusal → Option ((Word × RxState × Cause) × Byte × Byte × Word × Byte)
  | .next s =>
    s.responses.head?.map fun w => ((w, s.rxState, s.lastError), s.rxLen, s.rxCursor, s.rxAcc, s.rxClaimed)
  | .fault _ => none
  | .refused _ => none

/-- The fault a command raised. -/
def faultSeen : Host.Outcome State Fault Refusal → Option Fault
  | .next _ => none
  | .fault f => some f
  | .refused _ => none

/-- HOSTOUT after a command. -/
def outSeen : Host.Outcome State Fault Refusal → Option Memory
  | .next s => some s.hostout
  | .fault _ => none
  | .refused _ => none

/-! ## Well-formedness: each check of `Line.wellFormed` refuses an ill-formed line (30_encoding.md R95, R96) -/

theorem test_wf_txBegin_over : (Line.txBegin 256).wellFormed = false := by decide
theorem test_wf_rxByte_over : (Line.rxByte 256).wellFormed = false := by decide
theorem test_wf_rxTake_over : (Line.rxTake 256).wellFormed = false := by decide
theorem test_wf_txStep_over : (Line.txStep 2).wellFormed = false := by decide
theorem test_wf_rxFeed_empty : (Line.rxFeed []).wellFormed = false := by decide
theorem test_wf_rxFeed_over : (Line.rxFeed [2, 256]).wellFormed = false := by decide
theorem test_wf_txSend_over : (Line.txSend 256).wellFormed = false := by decide
theorem test_wf_ends : (Line.txBegin 255).wellFormed = true ∧ (Line.txStep 1).wellFormed = true ∧
    (Line.rxFeed [0, 255]).wellFormed = true := by decide

/-! ## Decoding: each command's word bit by bit, `{op, 0000, arg}` (30_encoding.md R80, R81) -/

theorem test_decode_nop : decode 0b0000_0000_0000_0000#16 = .ok .nop := by decide
theorem test_decode_txBegin : decode 0b0001_0000_1100_1000#16 = .ok (.txBegin 200) := by decide
theorem test_decode_txStep : decode 0b0010_0000_0000_0001#16 = .ok (.txStep true) := by decide
theorem test_decode_rxByte : decode 0b0011_0000_0000_0010#16 = .ok (.rxByte 0x02) := by decide
theorem test_decode_rxTake : decode 0b0100_0000_1111_1111#16 = .ok (.rxTake 255) := by decide
theorem test_decode_status : decode 0b0101_0000_0000_0000#16 = .ok .status := by decide
theorem test_decode_reset : decode 0b0110_0000_0000_0000#16 = .ok .reset := by decide

/-- The reserved words of 30_encoding.md R83, each by its name. -/
theorem test_decode_reserved :
    decode 0x7000 = .error .reservedOp ∧ decode 0xFFFF = .error .reservedField ∧
    decode 0x0100 = .error .reservedField ∧ decode 0x3841 = .error .reservedField ∧
    decode 0x0001 = .error .reservedArg ∧ decode 0x2002 = .error .reservedArg ∧
    decode 0x5080 = .error .reservedArg ∧ decode 0x6001 = .error .reservedArg := by decide

/-- The opcode table's bits reach the decoder, bit 0 the least significant. -/
theorem test_decodeTableWord : decodeTableWord 16 0x10C8 = some (.txBegin 200) ∧
    decodeTableWord 16 0x7000 = none := by decide

/-! ## The assembler (30_encoding.md R95, R96) -/

theorem test_assemble_rxByte : parseLine "RX_BYTE 0x41 ; a byte".toList = .ok (some (.rxByte 0x41)) ∧
    assembleLine (.rxByte 0x41) = .ok [0x3041] := ⟨rfl, rfl⟩
theorem test_assemble_blank : parseLine " ; only a comment".toList = .ok none := rfl
theorem test_assemble_feed : parseLine "RX_FEED 2, 0x00".toList = .ok (some (.rxFeed [2, 0])) := rfl
theorem test_assemble_bad : parseLine "TX_BEGIN 0xG".toList = .error .badNumber ∧
    parseLine "NOP 1".toList = .error .operandCount ∧ parseLine "HALT".toList = .error .unknownMnemonic ∧
    assembleLine (.txBegin 256) = .error .operandRange := ⟨rfl, rfl, rfl, rfl⟩
theorem test_assemble_text : assembleText ["TX_SEND 0".toList, "STATUS".toList] =
    .ok [0x1000, 0x2001, 0x2001, 0x2001, 0x2001, 0x5000] := rfl

/-! ## Commands (95_test_vectors.md) -/

/-- V-S7. -/
theorem test_nop : txSeen (exec .nop (tx .sendData 3 1 0x0040 block200)) =
    some (0x0000, .sendData, 3, 1, 0x0040) := by decide

/-- V-T2. -/
theorem test_txBegin_add : txSeen (exec (.txBegin 3) (block 200 .add .deferred)) =
    some (0x0001, .sendStart, 3, 0, 0x0003) := by decide

/-- V-T5: the length test comes before the busy test. -/
theorem test_txBegin_order : faultSeen (exec (.txBegin 201) (tx .sendData 3 1 0x0040 block200)) =
    some (.precondition 0x10C9) := by decide

/-- V-T16: the last data byte. -/
theorem test_txStep_lastData :
    txSeen (exec (.txStep true) { tx .sendData 3 2 0x0002 block200 with txmem := abc }) =
      some (0x0143, .sendChecksum, 3, 3, 0x0041) := by decide

/-- V-T19: the ADD checksum byte is the low byte of the sum. -/
theorem test_txStep_checksum : txSeen (exec (.txStep true) (tx .sendChecksum 255 255 0xFF00 (block 255 .add .early))) =
    some (0x0100, .sendEnd, 255, 255, 0xFF00) := by decide

/-- V-R8: a length above the ceiling writes no frame register. -/
theorem test_rxByte_ceiling : rxSeen (exec (.rxByte 0xC9) (rx .readLength 7 2 0x0033 0 block200)) =
    some ((0x0025, .error, .lengthOverflow), 7, 2, 0x0033, 0) := by decide

/-- V-R22: framing is reported first. -/
theorem test_rxByte_framingFirst : rxSeen (exec (.rxByte 0x04) (rx .waitEnd 3 3 0x0041 0x43 block200)) =
    some ((0x0085, .error, .framingError), 3, 3, 0x0041, 0x43) := by decide

/-- V-K3. -/
theorem test_rxTake : outSeen (exec (.rxTake 3) { rx .ready 3 3 0x0041 0x41 block200 with rxbuf := abc }) =
    some abc := by decide

/-- V-K4: `last_error` is not cleared. Beside it, by 43_collect_control.md R190, a loaded frame longer than RXBUF. -/
theorem test_rxTake_lengths :
    rxSeen (exec (.rxTake 0) { rx .ready 0 0 0x0002 0x02 block200 with lastError := .framingError }) =
      some ((0x0100, .waitStart, .framingError), 0, 0, 0, 0) ∧
    rxSeen (exec (.rxTake 255) (rx .ready 3 3 0x0041 0x41 (block 2 .xor .deferred))) =
      some ((0x0103, .waitStart, .none), 0, 0, 0, 0) := ⟨by decide, by decide⟩

/-- V-S4. -/
theorem test_status :
    rxSeen (exec .status { tx .sendData 3 1 0x0040 (rx .error 0 0 0 0 block200) with lastError := .framingError }) =
      some ((0x04BE, .error, .framingError), 0, 0, 0, 0) := by decide

/-- V-S8. -/
theorem test_reset :
    rxSeen (exec .reset { rx .ready 3 3 0x0041 0x41 block200 with lastError := .bufferOverrun }) =
      some ((0x0000, .waitStart, .none), 0, 0, 0, 0) := by decide

/-- The channel of 20_memory.md R61, R62: a second put is turned away, and the get returns the first byte. -/
theorem test_channel :
    Channel.trace [.put 0x41, .put 0x42, .get, .get] { slot := 0, full := false } =
      ({ slot := 0x41, full := false }, [0x41], [0x41]) := by decide

/-! ## Witnesses: each statement's hypotheses can be met -/

/-- A state in the middle of a send and of a reception, that meets both invariants. -/
def midFrame : State :=
  { tx .sendData 3 1 0x0040 (rx .readData 3 1 0x0040 0 block200) with txmem := abc, rxbuf := [(0, 0x41)] }

/-- A state with a received frame, that meets both invariants. -/
def received : State :=
  { tx .done 3 3 0x0041 (rx .ready 3 3 0x0041 0x41 block200) with txmem := abc, rxbuf := abc }

theorem witness_midFrame_session : midFrame.SessionInv := by constructor <;> decide
theorem witness_received_session : received.SessionInv := by constructor <;> decide
theorem witness_midFrame_memory : midFrame.MemoryInv := by constructor <;> decide
theorem witness_received_memory : received.MemoryInv := by constructor <;> decide

theorem witness_DecodeOfEncodeIsTheCommand : (Instr.txBegin 255).wellFormed = true := by decide

theorem witness_EncodeOfDecodeIsTheWord : decode 0x40FF = .ok (.rxTake 255) := by decide

/-- Both sides of the equivalence, at the ends of each part. -/
theorem witness_IllegalWordsFaultIllegalCmd :
    { midFrame with pending := [.command 0x7000] }.pending = .command 0x7000 :: [] ∧
    IllegalWord 0x7000 ∧ IllegalWord 0xF000 ∧ IllegalWord 0x0100 ∧ IllegalWord 0x0001 ∧ IllegalWord 0x5001 ∧
    IllegalWord 0x60FF ∧ IllegalWord 0x2002 ∧ ¬ IllegalWord 0x6000 ∧ ¬ IllegalWord 0x2001 ∧
    ¬ IllegalWord 0x10FF := by
  unfold IllegalWord
  exact ⟨rfl, by decide, by decide, by decide, by decide, by decide, by decide, by decide, by decide, by decide,
    by decide⟩

theorem witness_StepRunsTheDecodedCommand :
    { midFrame with pending := [.command 0x3042, .moveOut] }.pending = .command 0x3042 :: [.moveOut] ∧
    decode 0x3042 = .ok (.rxByte 0x42) ∧ (Instr.rxByte 0x42).wellFormed = true := by decide

theorem witness_StepWithNothingPendingWaits : midFrame.pending = [] := by decide

theorem witness_SourceLinesAssembleToTheirWords : (Line.txStep 2).wellFormed = false ∧ 0 < 256 ∧ 255 < 256 ∧
    [0, 255] ≠ [] ∧ ∀ b ∈ [0, 255], b < 256 := by decide

theorem witness_ResetGivesEveryRegisterItsValue :
    { received with pending := [.resetInput] }.pending = .resetInput :: [] := by decide

theorem witness_ChecksumAccumulatorValues : (List.replicate 255 (0xFF : Byte)).length ≤ 255 :=
  List.length_replicate.le

theorem witness_ChecksumClosedForms : [(0x41 : Byte), 0x42].length = (2 : Byte).toNat ∧
    [(0x41 : Byte), 0x42].Perm [0x42, 0x41] := ⟨rfl, .swap _ _ _⟩

/-- One witness for each of the three outcomes, at the ceiling. -/
theorem witness_TxBeginStartsRefusesOrFaults :
    midFrame.params.maxPayload.toNat < (201 : Byte).toNat ∧
    ((200 : Byte).toNat ≤ block200.params.maxPayload.toNat ∧ block200.txState = .idle) ∧
    ((0 : Byte).toNat ≤ received.params.maxPayload.toNat ∧ received.txState = .done) ∧
    ((200 : Byte).toNat ≤ midFrame.params.maxPayload.toNat ∧ midFrame.txState ≠ .idle ∧
      midFrame.txState ≠ .done) := by decide

theorem witness_TxStepInIdleAndDoneProducesNothing : block200.txState = .idle ∧ received.txState = .done := by
  decide

/-- A send in progress, and the loaded state of V-T23. -/
theorem witness_TxStepWithClosedGateChangesNothing : midFrame.txState ≠ .done ∧
    (tx .sendData 3 3 0x0041 block200).txState ≠ .done := by decide

theorem witness_TxStepSendsTheMarkers : (tx .sendStart 3 0 0x0001 block200).txState = .sendStart ∧
    (tx .sendEnd 3 3 0x0041 block200).txState = .sendEnd := by decide

/-- A frame with data, and an empty one. -/
theorem witness_TxStepSendsTheLength : (tx .sendLength 255 0 0x00FD block200).txState = .sendLength ∧
    ((tx .sendLength 0 0 0x0002 block200).txState = .sendLength ∧ (tx .sendLength 0 0 0x0002 block200).txLen = 0 ∧
      (tx .sendLength 0 0 0x0002 block200).txAcc = chkSeed block200.params.chk 0) := by decide

/-- The loaded state of V-T22, and the last data byte. -/
theorem witness_TxStepSendsADataByte :
    ((tx .sendData 3 3 0x0041 block200).txState = .sendData ∧ (3 : Byte).toNat ≤ (3 : Byte).toNat) ∧
    ((tx .sendData 3 2 0x0002 block200).txState = .sendData ∧ (2 : Byte).toNat < (3 : Byte).toNat) := by decide

theorem witness_TxStepSendsTheChecksum :
    (tx .sendChecksum 255 255 0xFF00 (block 255 .add .early)).txState = .sendChecksum := by decide

/-- Two states that differ in the cursor and in the receive session. -/
theorem witness_FramerIsMealyAndSkipsNoState :
    midFrame.txState = { midFrame with txCursor := 0, txmem := [(0, 0x42)], rxState := .error }.txState ∧
    midFrame.txLen = { midFrame with txCursor := 0, txmem := [(0, 0x42)], rxState := .error }.txLen ∧
    midFrame.txAcc = { midFrame with txCursor := 0, txmem := [(0, 0x42)], rxState := .error }.txAcc ∧
    readTx midFrame 1 = readTx { midFrame with txCursor := 0, txmem := [(0, 0x42)], rxState := .error } 0 ∧
    (∃ t, exec (.txStep true) midFrame = .next t) ∧
    ∃ t, exec (.txStep true) { midFrame with txCursor := 0, txmem := [(0, 0x42)], rxState := .error } = .next t :=
  ⟨rfl, rfl, rfl, rfl, ⟨_, rfl⟩, ⟨_, rfl⟩⟩

/-- The longest frame and the empty one, with a closed gate between. -/
theorem witness_SendEmitsExactlyTheFrame :
    ((200 : Byte).toNat ≤ block200.params.maxPayload.toNat ∧ block200.txState = .idle ∧
      (List.replicate 203 true).count true = (200 : Byte).toNat + 3) ∧
    ((0 : Byte).toNat ≤ received.params.maxPayload.toNat ∧ received.txState = .done ∧
      [true, false, true, true].count true = (0 : Byte).toNat + 3) := by
  refine ⟨⟨by decide, rfl, List.count_replicate_self⟩, by decide⟩

theorem witness_RxByteInWaitStart : block200.rxState = .waitStart := by decide

/-- At the ceiling and just above it. -/
theorem witness_RxByteInReadLength : (rx .readLength 0 0 0 0 block200).rxState = .readLength ∧
    block200.params.maxPayload.toNat < (201 : Byte).toNat ∧
    (200 : Byte).toNat ≤ block200.params.maxPayload.toNat := by decide

/-- The loaded states of V-R15 and V-R16, and the last data byte. -/
theorem witness_RxByteInReadData :
    ((rx .readData 3 3 0x0041 0 block200).rxState = .readData ∧ (3 : Byte).toNat ≤ (3 : Byte).toNat) ∧
    ((rx .readData 250 200 0 0 block200).rxState = .readData ∧
      block200.params.maxPayload.toNat ≤ (200 : Byte).toNat) ∧
    ((rx .readData 200 199 0 0 block200).rxState = .readData ∧ (199 : Byte).toNat < (200 : Byte).toNat ∧
      (199 : Byte).toNat < block200.params.maxPayload.toNat) := by decide

/-- DEFERRED with a wrong byte, EARLY with the right and with a wrong one. -/
theorem witness_RxByteInReadChecksum :
    ((rx .readChecksum 3 3 0x0041 0 block200).rxState = .readChecksum ∧
      (rx .readChecksum 3 3 0x0041 0 block200).params.topology = .deferred) ∧
    ((rx .readChecksum 3 3 0x0141 0 (block 200 .add .early)).rxState = .readChecksum ∧
      (0x41 : Byte).toNat = (0x0141 : Word).toNat % 256) ∧
    ((rx .readChecksum 3 3 0x0041 0 (block 200 .xor .early)).params.topology = .early ∧
      (0x43 : Byte).toNat ≠ (0x0041 : Word).toNat % 256) := by decide

theorem witness_RxByteInWaitEnd :
    ((rx .waitEnd 3 3 0x0041 0x43 block200).rxState = .waitEnd ∧ (0x02 : Byte) ≠ 0x03) ∧
    ((rx .waitEnd 3 3 0x0041 0x43 block200).params.topology = .deferred ∧
      (0x43 : Byte).toNat ≠ (0x0041 : Word).toNat % 256) ∧
    (rx .waitEnd 3 3 0x0041 0x41 (block 200 .xor .early)).params.topology = .early ∧
    (0x41 : Byte).toNat = (0x0041 : Word).toNat % 256 := by decide

theorem witness_RxByteInReadyIsNotConsumed : received.rxState = .ready := by decide

theorem witness_RxByteInErrorResyncs : (rx .error 3 3 0x0041 0x43 block200).rxState = .error := by decide

/-- One entry into `Error` for each cause. -/
theorem witness_ErrorEntryChangesOnlyStateAndCause :
    (∃ t, exec (.rxByte 0xC9) (rx .readLength 0 0 0 0 block200) = .next t ∧ t.rxState = .error) ∧
    (∃ t, exec (.rxByte 0x55) (rx .readData 3 3 0x0041 0 block200) = .next t ∧ t.rxState = .error) ∧
    (∃ t, exec (.rxByte 0x43) (rx .readChecksum 3 3 0x0041 0 (block 200 .xor .early)) = .next t ∧
      t.rxState = .error) ∧
    ∃ t, exec (.rxByte 0x04) (rx .waitEnd 3 3 0x0041 0x41 block200) = .next t ∧ t.rxState = .error :=
  ⟨⟨_, rfl, rfl⟩, ⟨_, rfl, rfl⟩, ⟨_, rfl, rfl⟩, ⟨_, rfl, rfl⟩⟩

/-- A byte that stays, the resync, a step that leaves `Error`, and a length at the ceiling. -/
theorem witness_OnlyAStartMarkerOrResetLeavesError :
    (rx .error 0 0 0 0 block200).rxState = .error ∧
    (∃ t, exec (.rxByte 0x03) (rx .error 0 0 0 0 block200) = .next t) ∧
    (∃ t, exec (.rxByte 0x02) (rx .error 0 0 0 0 block200) = .next t) ∧
    (∃ t, step { rx .error 0 0 0 0 block200 with held := some 0x02, pending := [.moveIn] } = .next t ∧
      t.rxState ≠ .error) ∧
    ((rx .readLength 7 2 0x0033 0 block200).rxState = .readLength ∧
      (200 : Byte).toNat ≤ block200.params.maxPayload.toNat) :=
  ⟨rfl, ⟨_, rfl⟩, ⟨_, rfl⟩, ⟨_, rfl, by decide⟩, by decide⟩

theorem witness_OnlyErrorEntryAndResetWriteLastError :
    ∃ t, exec (.rxByte 0x04) (rx .waitEnd 3 3 0x0041 0x41 block200) = .next t := ⟨_, rfl⟩

/-- A collection that writes HOSTOUT, and a byte that writes RXBUF. -/
theorem witness_EachSpaceHasItsOneWriter : (∃ t, exec (.rxTake 255) received = .next t) ∧
    ∃ t, exec (.rxByte 0x42) midFrame = .next t ∧ Instr.rxByte 0x42 ≠ .reset := ⟨⟨_, rfl⟩, ⟨_, rfl, by decide⟩⟩

theorem witness_EachCommandTouchesOneSession : (∃ t, exec .status midFrame = .next t) ∧
    (∃ t, exec (.rxByte 0x42) midFrame = .next t) ∧ ∃ t, exec (.txStep true) midFrame = .next t :=
  ⟨⟨_, rfl⟩, ⟨_, rfl⟩, ⟨_, rfl⟩⟩

/-- A command word, and a state whose next action is no command word. -/
theorem witness_CommandsFaultExactlyAsListed :
    { midFrame with pending := [.command 0x2001] }.pending = .command 0x2001 :: [] ∧
    ∀ w rest, { midFrame with pending := [.moveOut] }.pending ≠ .command w :: rest := ⟨rfl, by simp⟩

theorem witness_ParametersNeverChange :
    ∃ t, step { midFrame with pending := [.command 0x6000] } = .next t := ⟨_, rfl⟩

theorem witness_OnlyPreconditionFaultsUnderTheInvariant : midFrame.SessionInv ∧
    exec (.txBegin 255) midFrame = .fault (.precondition 0x10FF) := ⟨witness_midFrame_session, rfl⟩

/-- Not `Ready`, a capacity one too small, one that just fits, and a loaded length above the ceiling. -/
theorem witness_RxTakeCollectsOrReturnsNothing : midFrame.rxState ≠ .ready ∧
    (2 : Byte).toNat < received.rxLen.toNat ∧
    (received.rxState = .ready ∧ received.rxLen.toNat ≤ (3 : Byte).toNat) ∧
    ((rx .ready 201 201 0 0 block200).rxState = .ready ∧
      (rx .ready 201 201 0 0 block200).rxLen.toNat ≤ (201 : Byte).toNat) := by decide

theorem witness_RxTakePastTheBufferCollects : (rx .ready 201 201 0 0 block200).rxState = .ready ∧
    (201 : Byte).toNat ≤ (201 : Byte).toNat ∧ block200.params.maxPayload.toNat < (201 : Byte).toNat := by decide

theorem witness_NopChangesNothing :
    { midFrame with pending := [.command 0x0000] }.pending = .command 0x0000 :: [] := by decide

theorem witness_ResponsesHoldOnlyNamedBits : (∃ t, exec .nop midFrame = .next t) ∧
    (∃ t, exec (.txBegin 200) received = .next t) ∧ (∃ t, exec (.txStep true) midFrame = .next t) ∧
    (∃ t, exec (.rxByte 0xFF) midFrame = .next t) ∧ (∃ t, exec (.rxTake 255) received = .next t) ∧
    (∃ t, exec .status received = .next t) ∧ ∃ t, exec .reset received = .next t :=
  ⟨⟨_, rfl⟩, ⟨_, rfl⟩, ⟨_, rfl⟩, ⟨_, rfl⟩, ⟨_, rfl⟩, ⟨_, rfl⟩, ⟨_, rfl⟩⟩

/-- A valid frame (V-S1) and one whose checksum is wrong, from both states. -/
theorem witness_ParserAcceptsExactlyTheValidFrames :
    block200.rxState = .waitStart ∧ (rx .error 0 0 0 0 block200).rxState = .error ∧
    (3 : Byte).toNat ≤ block200.params.maxPayload.toNat ∧
    [(0x41 : Byte), 0x42, 0x43, 0x41, 0x03].length = (3 : Byte).toNat + 2 ∧
    validFrame block200.params [0x02, 0x03, 0x41, 0x42, 0x43, 0x41, 0x03] = true ∧
    validFrame block200.params [0x02, 0x03, 0x41, 0x42, 0x43, 0x43, 0x03] = false := by decide

theorem witness_TopologiesDifferOnlyAfterABadChecksum :
    (rx .readChecksum 3 3 0x0041 0 block200).rxState = .readChecksum ∧
    (midFrame.rxState ≠ .readChecksum ∧ midFrame.rxState ≠ .waitEnd) := by decide

theorem witness_RoundTripDeliversThePayload :
    block200.params = received.params ∧ (200 : Byte).toNat ≤ received.params.maxPayload.toNat ∧
    received.txState = .done ∧ block200.rxState = .waitStart ∧ ∀ b ∈ [(0x55 : Byte), 0xAA, 0x03], b ≠ 0x02 := by
  decide

theorem witness_HostWriteSetsOneTxmemCell :
    { midFrame with pending := [.writeTx 255 0x41] }.pending = .writeTx 255 0x41 :: [] := by decide

theorem witness_ChannelKeepsTheOrder :
    ∀ e ∈ [LinkEvent.put 0x41, .put 0x42, .get], e = .get ∨ ∃ b, e = .put b := by
  simp

/-- The channel taken, and free. -/
theorem witness_MovingOutDeliversTheByte :
    { midFrame with pending := [.moveOut], txChan := { slot := 0x41, full := true } }.txChan.full = true ∧
    { midFrame with pending := [.moveOut] }.pending = .moveOut :: [] ∧ midFrame.txChan.full = false ∧
    ∃ u, exec (.txStep true) { midFrame with pending := [] } = .next u := ⟨rfl, rfl, rfl, ⟨_, rfl⟩⟩

/-- No byte, a byte kept, and a byte in the channel; in `Ready` and not. -/
theorem witness_MovingInLosesNoByte :
    { midFrame with pending := [.moveIn] }.pending = .moveIn :: [] ∧
    (midFrame.held = none ∧ midFrame.rxChan.full = false) ∧
    { received with held := some 0x02 }.held = some 0x02 ∧
    ({ midFrame with rxChan := { slot := 0x42, full := true } }.held = none ∧
      { midFrame with rxChan := { slot := 0x42, full := true } }.rxChan = { slot := 0x42, full := true }) ∧
    received.rxState = .ready ∧ midFrame.rxState ≠ .ready := by decide

theorem witness_EveryStepKeepsTheSessionInvariant :
    { midFrame with pending := [.command 0x3042] }.SessionInv ∧
    ∃ t, step { midFrame with pending := [.command 0x3042] } = .next t :=
  ⟨by constructor <;> decide, ⟨_, rfl⟩⟩

theorem witness_EveryStepKeepsTheMemoriesCanonical :
    { received with pending := [.command 0x4003] }.MemoryInv ∧
    ∃ t, step { received with pending := [.command 0x4003] } = .next t :=
  ⟨by constructor <;> decide, ⟨_, rfl⟩⟩

/-- Two states that differ in an RXBUF cell the frame has not reached. -/
theorem witness_UnwrittenBufferCellsAreNeverObserved : midFrame.SessionInv ∧
    midFrame.SameButUnwritten { midFrame with rxbuf := [(0, 0x41), (2, 0x99)], draws := 7 } ∧
    ∃ t, exec (.rxByte 0x42) midFrame = .next t :=
  ⟨witness_midFrame_session, ⟨rfl, by decide⟩, ⟨_, rfl⟩⟩

end Sys2Proof.Tests
end

namespace Sys2Proof.Machine

/-! The scope statements (00_scope.md): what a step runs (R9), and that the build-time parameters stay (R7). -/

/-- With a command word next, a step issues it and takes it from the pending list (00_scope.md R9). -/
theorem step_command {s : State} {w : Word} {rest : List HostAction} (h : s.pending = .command w :: rest) :
    step s = issue w { s with pending := rest } := by
  simp only [step, stepPending, h, perform]

/-- A word that spells a command runs it (30_encoding.md R80). -/
theorem issue_of_decode {w : Word} {i : Instr} (h : decode w = .ok i) (s : State) : issue w s = exec i s := by
  simp only [issue, h]

/-- Settles O5: the step issues the word, and the word decodes to the command. -/
theorem stepRunsTheDecodedCommand : Obligations.StepRunsTheDecodedCommand := by
  intro s w rest i hp hd _
  rw [step_command hp, issue_of_decode hd]

/-- An arm of TX_STEP writes nothing but `tx_state`, `tx_cursor` and `tx_acc` (41_transmit.md R123 to R127). -/
theorem txArm_frame {s : State} {r : State × Byte} (h : txArm s r) :
    r.1 = { s with txState := r.1.txState, txCursor := r.1.txCursor, txAcc := r.1.txAcc } := by
  rcases h with ⟨_, rfl⟩ | ⟨_, rfl⟩ | ⟨_, _, rfl⟩ | ⟨_, rfl⟩ | ⟨_, rfl⟩ <;> rfl

theorem txArm_params {s : State} {r : State × Byte} (h : txArm s r) : r.1.params = s.params := by
  rw [txArm_frame h]

theorem rxArm_params {b : Byte} {s : State} {o : RxOut} (h : rxArm b s = some o) : o.state.params = s.params := by
  rw [(rxArm_frame h).1]

@[simp] theorem deliver_params (s : State) : (deliver s).params = s.params := by
  obtain ⟨_, h⟩ := deliver_eq s
  rw [h]

@[simp] theorem keep_params (b : Byte) (s : State) : (keep b s).params = s.params := by
  obtain ⟨_, h⟩ := keep_eq b s
  rw [h]

@[simp] theorem linkState_params (c : ChannelId) (e : LinkEvent) (s : State) :
    (linkState c e s).params = s.params := by
  obtain ⟨_, _, h⟩ := linkState_eq c e s
  rw [h]

/-- No command writes the parameters (00_scope.md R7). -/
theorem exec_params {i : Instr} {s t : State} (h : exec i s = .next t) : t.params = s.params := by
  rcases exec_next h with ⟨_, rfl⟩ | ⟨_, rfl⟩ | ⟨len, _, _, rfl⟩ | ⟨_, _, rfl⟩ | ⟨r, _, hr, rfl⟩ |
    ⟨_, o, _, _, ho, rfl⟩ | ⟨_, _, _, _, _, rfl⟩
  · exact respond_params _ s
  · exact resetBlock_params s
  · exact beginSend_params len s
  · rfl
  · exact txArm_params hr
  · exact rxArm_params ho
  · exact takeFrame_params s

theorem moveOut_params {s t : State} (h : moveOut s = .next t) : t.params = s.params := by
  obtain ⟨_, rfl⟩ | ⟨_, u, hu, rfl⟩ := moveOut_next h
  · rfl
  · rw [deliver_params, exec_params hu]

theorem offer_params {b : Byte} {s t : State} (h : offer b s = .next t) : t.params = s.params := by
  obtain ⟨u, hu, rfl⟩ := offer_next h
  rw [keep_params, exec_params hu]

theorem moveIn_params {s t : State} (h : moveIn s = .next t) : t.params = s.params := by
  obtain ⟨b, _, ho⟩ | ⟨_, _, rfl⟩ | ⟨_, _, ho⟩ := moveIn_next h
  · exact offer_params ho
  · rfl
  · exact (offer_params ho :)

/-- No action of the host or of the environment writes the parameters (00_scope.md R7). -/
theorem perform_params {a : HostAction} {s t : State} (h : perform a s = .next t) : t.params = s.params := by
  cases a with
  | command w =>
    obtain ⟨i, _, hi⟩ := issue_next h
    exact exec_params hi
  | writeTx a b => cases h; exact hostWriteTx_params a b s
  | resetInput => cases h; exact resetBlock_params s
  | moveOut => exact moveOut_params h
  | moveIn => exact moveIn_params h
  | link c e => cases h; exact linkState_params c e s

/-- Settles O34: a step waits, or performs one action, and no action writes the parameters. -/
theorem parametersNeverChange : Obligations.ParametersNeverChange := by
  intro s t h
  obtain ⟨_, rfl⟩ | ⟨a, rest, _, ha⟩ := step_next h
  · rfl
  · exact (perform_params ha :)

end Sys2Proof.Machine

namespace Sys2Proof.Machine

/-! The session invariant (10_state.md R37). It splits into a transmit and a receive half; each half depends on its
own session's fields only, so a step that writes one session keeps the other half by that session's frame. -/

/-- The transmit half of the session invariant (10_state.md R37 items 1, 2 and 5). -/
structure State.TxInv (s : State) : Prop where
  head : s.txState = .sendStart ∨ s.txState = .sendLength → s.txCursor = 0
  data : s.txState = .sendData → s.txCursor < s.txLen
  fits : s.txState.busy = true → s.txLen ≤ s.params.maxPayload ∧ s.txCursor ≤ s.txLen
  accHigh : s.params.chk = .xor → s.txAcc.extractLsb' 8 8 = 0

/-- The receive half of the session invariant (10_state.md R37 items 3 to 6). -/
structure State.RxInv (s : State) : Prop where
  data : s.rxState = .readData → s.rxCursor < s.rxLen
  fits : s.rxState.receiving = true → s.rxLen ≤ s.params.maxPayload
  tail : s.rxState = .readChecksum ∨ s.rxState = .waitEnd ∨ s.rxState = .ready → s.rxCursor = s.rxLen
  accHigh : s.params.chk = .xor → s.rxAcc.extractLsb' 8 8 = 0
  checked : s.rxState = .ready ∨ (s.rxState = .waitEnd ∧ s.params.topology = .early) →
    s.rxClaimed = chkFinal s.rxAcc
  listed : s.rxState.receiving = true → ∀ a, a < s.rxCursor.toNat → s.rxbuf.read a ≠ none
  sum : s.rxState.receiving = true →
    s.rxAcc = chkAcc s.params.chk s.rxLen (rxBytes s s.rxCursor.toNat)

/-- The session invariant is its two halves. -/
theorem sessionInv_iff {s : State} : s.SessionInv ↔ s.TxInv ∧ s.RxInv where
  mp h := ⟨⟨h.txHead, h.txData, h.txFits, fun hx => (h.accHigh hx).1⟩,
    ⟨h.rxData, h.rxFits, h.rxTail, fun hx => (h.accHigh hx).2, h.rxChecked, h.rxListed, h.rxSum⟩⟩
  mpr := fun ⟨ht, hr⟩ => ⟨ht.head, ht.data, ht.fits, hr.data, hr.fits, hr.tail,
    fun hx => ⟨ht.accHigh hx, hr.accHigh hx⟩, hr.checked, hr.listed, hr.sum⟩

/-- What the transmit half depends on. -/
def State.txSession (s : State) : Params × TxState × Byte × Byte × Word :=
  (s.params, s.txState, s.txLen, s.txCursor, s.txAcc)

/-- What the receive half depends on. -/
def State.rxSession (s : State) : Params × RxState × Byte × Byte × Word × Byte × Memory × Nat :=
  (s.params, s.rxState, s.rxLen, s.rxCursor, s.rxAcc, s.rxClaimed, s.rxbuf, s.draws)

theorem State.TxInv.congr {s t : State} (h : s.TxInv) (he : t.txSession = s.txSession) : t.TxInv := by
  simp only [State.txSession, Prod.mk.injEq] at he
  obtain ⟨hp, hs, hl, hc, ha⟩ := he
  constructor <;> simp only [hp, hs, hl, hc, ha]
  exacts [h.head, h.data, h.fits, h.accHigh]

theorem State.RxInv.congr {s t : State} (h : s.RxInv) (he : t.rxSession = s.rxSession) : t.RxInv := by
  simp only [State.rxSession, Prod.mk.injEq] at he
  obtain ⟨hp, hs, hl, hc, ha, hk, hb, hd⟩ := he
  have hbytes (n : Nat) : rxBytes t n = rxBytes s n :=
    List.map_congr_left fun a _ => readRx_congr hb hp hd a
  constructor <;> simp only [hp, hs, hl, hc, ha, hk, hb, hbytes]
  exacts [h.data, h.fits, h.tail, h.accHigh, h.checked, h.listed, h.sum]

/-- The session invariant depends on the two sessions only. -/
theorem State.SessionInv.congr {s t : State} (h : s.SessionInv) (htx : t.txSession = s.txSession)
    (hrx : t.rxSession = s.rxSession) : t.SessionInv :=
  have ⟨ht, hr⟩ := sessionInv_iff.1 h
  sessionInv_iff.2 ⟨ht.congr htx, hr.congr hrx⟩

/-! ### The transmit half -/

/-- With no send under way the transmit half speaks of the accumulator only. -/
theorem State.TxInv.of_not_busy {s : State} (hs : s.txState.busy = false)
    (ha : s.params.chk = .xor → s.txAcc.extractLsb' 8 8 = 0) : s.TxInv where
  head := by rintro (h | h) <;> simp [h, TxState.busy] at hs
  data h := by simp [h, TxState.busy] at hs
  fits h := by simp [h] at hs
  accHigh := ha

/-- The seed has a zero upper byte under XOR (40_checksum.md R102). -/
theorem chkSeed_high {v : ChkVariant} (len : Byte) (hv : v = .xor) : (chkSeed v len).extractLsb' 8 8 = 0 := by
  rw [hv, chkSeed_xor_high]

/-- A fold keeps a zero upper byte under XOR (40_checksum.md R102). -/
theorem chkFold_high {v : ChkVariant} {acc : Word} (b : Byte) (hv : v = .xor) (ha : acc.extractLsb' 8 8 = 0) :
    (chkFold v acc b).extractLsb' 8 8 = 0 := by
  rw [hv, chkFold_xor_high, ha]

/-- An accepted TX_BEGIN establishes the transmit half (41_transmit.md R120). -/
theorem beginSend_txInv {len : Byte} {s : State} (hl : ¬ s.params.maxPayload < len) : (beginSend len s).TxInv where
  head _ := rfl
  data h := by simp at h
  fits _ := ⟨BitVec.not_lt.1 hl, BitVec.le_def.2 (Nat.zero_le _)⟩
  accHigh := chkSeed_high len

/-- `SendStart` to `SendLength` (41_transmit.md R123). -/
theorem sendStart_txInv {s : State} (h : s.TxInv) (hs : s.txState = .sendStart) : (sendStart s).1.TxInv where
  head _ := h.head (.inl hs)
  data hd := by simp [sendStart] at hd
  fits _ := h.fits (by simp [hs, TxState.busy])
  accHigh := h.accHigh

/-- Where TX_STEP goes from `SendLength` (41_transmit.md R124). -/
theorem sendLength_txState (s : State) :
    (0 < s.txLen ∧ (sendLength s).1.txState = .sendData) ∨
      (¬ 0 < s.txLen ∧ (sendLength s).1.txState = .sendChecksum) := by
  by_cases hl : 0 < s.txLen
  · exact .inl ⟨hl, if_pos hl⟩
  · exact .inr ⟨hl, if_neg hl⟩

/-- `SendLength` skips the data phase of an empty frame (41_transmit.md R124). -/
theorem sendLength_txInv {s : State} (h : s.TxInv) (hs : s.txState = .sendLength) : (sendLength s).1.TxInv where
  head _ := h.head (.inr hs)
  data hd := by
    obtain ⟨hl, _⟩ | ⟨_, hst⟩ := sendLength_txState s
    · change s.txCursor < s.txLen
      rwa [h.head (.inr hs)]
    · simp [hst] at hd
  fits _ := h.fits (by simp [hs, TxState.busy])
  accHigh := h.accHigh

/-- A cursor below the length does not pass it by one step. -/
theorem succ_le_of_byte_lt {a b : Byte} (h : a < b) : a + 1 ≤ b := by bv_omega

/-- Where TX_STEP goes from `SendData` (41_transmit.md R125). -/
theorem sendData_txState (s : State) :
    (s.txCursor + 1 = s.txLen ∧ (sendData s).1.txState = .sendChecksum) ∨
      (s.txCursor + 1 ≠ s.txLen ∧ (sendData s).1.txState = .sendData) := by
  by_cases he : s.txCursor + 1 = s.txLen
  · exact .inl ⟨he, if_pos he⟩
  · exact .inr ⟨he, if_neg he⟩

/-- `SendData` leaves the data phase when the cursor reaches the length (41_transmit.md R125). -/
theorem sendData_txInv {s : State} (h : s.TxInv) (hs : s.txState = .sendData) (hlt : s.txCursor < s.txLen) :
    (sendData s).1.TxInv where
  head := by obtain ⟨_, hst⟩ | ⟨_, hst⟩ := sendData_txState s <;> simp [hst]
  data hd := by
    obtain ⟨_, hst⟩ | ⟨hne, _⟩ := sendData_txState s
    · simp [hst] at hd
    · exact BitVec.lt_of_le_ne (succ_le_of_byte_lt hlt) hne
  fits _ := ⟨(h.fits (by simp [hs, TxState.busy])).1, succ_le_of_byte_lt hlt⟩
  accHigh hx := chkFold_high _ hx (h.accHigh hx)

/-- `SendChecksum` to `SendEnd` (41_transmit.md R126). -/
theorem sendChecksum_txInv {s : State} (h : s.TxInv) (hs : s.txState = .sendChecksum) :
    (sendChecksum s).1.TxInv where
  head := by simp [sendChecksum]
  data hd := by simp [sendChecksum] at hd
  fits _ := h.fits (by simp [hs, TxState.busy])
  accHigh := h.accHigh

/-- Every arm of TX_STEP keeps the transmit half. -/
theorem txArm_txInv {s : State} {r : State × Byte} (h : s.TxInv) (hr : txArm s r) : r.1.TxInv := by
  rcases hr with ⟨hs, rfl⟩ | ⟨hs, rfl⟩ | ⟨hs, hlt, rfl⟩ | ⟨hs, rfl⟩ | ⟨_, rfl⟩
  · exact sendStart_txInv h hs
  · exact sendLength_txInv h hs
  · exact sendData_txInv h hs hlt
  · exact sendChecksum_txInv h hs
  · exact .of_not_busy rfl h.accHigh

/-! ### The receive half -/

/-- The registers a length byte starts a frame with (42_receive.md R152). -/
def startFrame (b : Byte) (s : State) : State :=
  { s with
    rxLen := b, rxCursor := 0, rxAcc := chkSeed s.params.chk b
    rxState := if 0 < b then .readData else .readChecksum }

/-- The store of a data byte (42_receive.md R153). -/
def storeByte (b : Byte) (s : State) : State :=
  { s with
    rxbuf := s.rxbuf.write s.rxCursor.toNat b, rxAcc := chkFold s.params.chk s.rxAcc b
    rxCursor := s.rxCursor + 1
    rxState := if s.rxCursor + 1 = s.rxLen then .readChecksum else .readData }

/-- Where a length byte that fits leads (42_receive.md R152). -/
theorem startFrame_rxState (b : Byte) (s : State) :
    (0 < b ∧ (startFrame b s).rxState = .readData) ∨
      (¬ 0 < b ∧ (startFrame b s).rxState = .readChecksum) := by
  by_cases hb : 0 < b
  · exact .inl ⟨hb, if_pos hb⟩
  · exact .inr ⟨hb, if_neg hb⟩

/-- Where a stored data byte leads (42_receive.md R153). -/
theorem storeByte_rxState (b : Byte) (s : State) :
    (s.rxCursor + 1 = s.rxLen ∧ (storeByte b s).rxState = .readChecksum) ∨
      (s.rxCursor + 1 ≠ s.rxLen ∧ (storeByte b s).rxState = .readData) := by
  by_cases he : s.rxCursor + 1 = s.rxLen
  · exact .inl ⟨he, if_pos he⟩
  · exact .inr ⟨he, if_neg he⟩

/-- The state an arm of RX_BYTE leaves (42_receive.md R151 to R159): an entry into `Error`, which may have
written `rx_claimed` (R155); a move outside the frame; the start of a frame; a store; the claimed checksum; or
the end of a good frame. -/
theorem rxArm_state {b : Byte} {s : State} {o : RxOut} (h : rxArm b s = some o) :
    (s.rxState ≠ .error ∧ ∃ c k, c ≠ .none ∧ o.state = enterError c { s with rxClaimed := k }) ∨
    (∃ st, st.receiving = false ∧ o.state = { s with rxState := st }) ∨
    (¬ s.params.maxPayload < b ∧ o.state = startFrame b s) ∨
    (s.rxState = .readData ∧ s.rxCursor < s.rxLen ∧ s.rxCursor < s.params.maxPayload ∧
      o.state = storeByte b s) ∨
    (s.rxState = .readChecksum ∧ (s.params.topology = .early → b = chkFinal s.rxAcc) ∧
      o.state = { s with rxClaimed := b, rxState := .waitEnd }) ∨
    (s.rxState = .waitEnd ∧ (s.params.topology = .deferred → s.rxClaimed = chkFinal s.rxAcc) ∧
      o.state = { s with rxState := .ready }) := by
  have fail {c : Cause} (k : Byte) (hs : s.rxState ≠ .error) (hc : c ≠ .none) :
      s.rxState ≠ .error ∧ ∃ c' k', c' ≠ .none ∧
        (rxFail c { s with rxClaimed := k }).state = enterError c' { s with rxClaimed := k' } :=
    ⟨hs, c, k, hc, rfl⟩
  rcases rxArm_some h with
    ⟨hs, _, rfl⟩ | ⟨_, _, rfl⟩ | ⟨_, _, rfl⟩ | ⟨hs, rfl⟩ | ⟨hs, rfl⟩ | ⟨hs, rfl⟩ | ⟨hs, rfl⟩
  · exact .inr (.inl ⟨s.rxState, by rcases hs with hs | hs <;> simp [hs, RxState.receiving], rfl⟩)
  · exact .inr (.inl ⟨.readLength, rfl, rfl⟩)
  · exact .inr (.inl ⟨.readLength, rfl, rfl⟩)
  · unfold rxReadLength
    split
    · exact .inl (fail s.rxClaimed (by simp [hs]) (by simp))
    · exact .inr (.inr (.inl ⟨‹_›, rfl⟩))
  · unfold rxReadData
    split
    · exact .inl (fail s.rxClaimed (by simp [hs]) (by simp))
    · rename_i hg
      simp only [not_or, BitVec.not_le] at hg
      exact .inr (.inr (.inr (.inl ⟨hs, hg.1, hg.2, rfl⟩)))
  · unfold rxReadChecksum rxReadChecksumDeferred rxReadChecksumEarly
    split
    · exact .inr (.inr (.inr (.inr (.inl ⟨hs, by simp [*], rfl⟩))))
    · split
      · exact .inr (.inr (.inr (.inr (.inl ⟨hs, fun _ => ‹_›, rfl⟩))))
      · exact .inl (fail b (by simp [hs]) (by simp))
  · unfold rxWaitEnd rxWaitEndDeferred rxWaitEndEarly
    split <;> split
    · exact .inl (fail s.rxClaimed (by simp [hs]) (by simp))
    · split
      · exact .inl (fail s.rxClaimed (by simp [hs]) (by simp))
      · exact .inr (.inr (.inr (.inr (.inr ⟨hs, fun _ => not_not.1 ‹_›, rfl⟩))))
    · exact .inl (fail s.rxClaimed (by simp [hs]) (by simp))
    · exact .inr (.inr (.inr (.inr (.inr ⟨hs, by simp [*], rfl⟩))))

/-- With no frame under way the receive half speaks of the accumulator only. -/
theorem State.RxInv.of_not_receiving {s : State} (hs : s.rxState.receiving = false)
    (ha : s.params.chk = .xor → s.rxAcc.extractLsb' 8 8 = 0) : s.RxInv where
  data h := by simp [h, RxState.receiving] at hs
  fits h := by simp [h] at hs
  tail := by rintro (h | h | h) <;> simp [h, RxState.receiving] at hs
  accHigh := ha
  checked := by rintro (h | ⟨h, _⟩) <;> simp [h, RxState.receiving] at hs
  listed h := by simp [h] at hs
  sum h := by simp [h] at hs

/-- A length byte that fits establishes the receive half (42_receive.md R152). -/
theorem startFrame_rxInv {b : Byte} {s : State} (hl : ¬ s.params.maxPayload < b) : (startFrame b s).RxInv where
  data hd := by
    obtain ⟨hb, _⟩ | ⟨_, hst⟩ := startFrame_rxState b s
    · exact hb
    · simp [hst] at hd
  fits _ := BitVec.not_lt.1 hl
  tail := by
    obtain ⟨_, hst⟩ | ⟨hb, _⟩ := startFrame_rxState b s
    · simp [hst]
    · intro _
      change 0 = b
      bv_omega
  accHigh := chkSeed_high b
  checked := by obtain ⟨_, hst⟩ | ⟨_, hst⟩ := startFrame_rxState b s <;> simp [hst]
  listed _ a ha := absurd ha (Nat.not_lt_zero a)
  sum _ := rfl

/-- A byte below another does not wrap. -/
theorem succ_toNat_of_byte_lt {a b : Byte} (h : a < b) : (a + 1).toNat = a.toNat + 1 := by bv_omega

/-- RXBUF after a store inside it (42_receive.md R153). -/
theorem readRx_storeByte {s : State} (b : Byte) (hm : s.rxCursor < s.params.maxPayload) (a : Nat) :
    readRx (storeByte b s) a = if a = s.rxCursor.toNat then b else readRx s a :=
  readRx_write (s := s) (t := storeByte b s) rfl rfl rfl hm a

/-- The frame's bytes after a store are those before it and the byte stored (42_receive.md R153). -/
theorem rxBytes_storeByte {s : State} (b : Byte) (hm : s.rxCursor < s.params.maxPayload) :
    rxBytes (storeByte b s) (s.rxCursor.toNat + 1) = rxBytes s s.rxCursor.toNat ++ [b] := by
  have hold : ∀ a ∈ List.range s.rxCursor.toNat, readRx (storeByte b s) a = readRx s a := fun a ha => by
    rw [readRx_storeByte b hm, if_neg (List.mem_range.1 ha).ne]
  simp [rxBytes, List.range_succ, List.map_congr_left hold, readRx_storeByte b hm]

/-- A store keeps the receive half (42_receive.md R153). -/
theorem storeByte_rxInv {b : Byte} {s : State} (h : s.RxInv) (hs : s.rxState = .readData)
    (hlt : s.rxCursor < s.rxLen) (hm : s.rxCursor < s.params.maxPayload) : (storeByte b s).RxInv := by
  have hr : s.rxState.receiving = true := by simp [hs, RxState.receiving]
  have hc : (storeByte b s).rxCursor.toNat = s.rxCursor.toNat + 1 := succ_toNat_of_byte_lt hlt
  constructor
  case data =>
    intro hd
    obtain ⟨_, hst⟩ | ⟨hne, _⟩ := storeByte_rxState b s
    · simp [hst] at hd
    · exact BitVec.lt_of_le_ne (succ_le_of_byte_lt hlt) hne
  case fits => exact fun _ => h.fits hr
  case tail =>
    obtain ⟨he, _⟩ | ⟨_, hst⟩ := storeByte_rxState b s
    · exact fun _ => he
    · simp [hst]
  case accHigh => exact fun hx => chkFold_high b hx (h.accHigh hx)
  case checked => obtain ⟨_, hst⟩ | ⟨_, hst⟩ := storeByte_rxState b s <;> simp [hst]
  case listed =>
    intro _ a ha
    change (s.rxbuf.write s.rxCursor.toNat b).read a ≠ none
    by_cases hac : a = s.rxCursor.toNat
    · simp [hac]
    · rw [Memory.read_write_other _ _ hac]
      exact h.listed hr a (by omega)
  case sum =>
    intro _
    rw [hc, rxBytes_storeByte b hm, chkAcc_append]
    change chkFold s.params.chk s.rxAcc b = chkFold s.params.chk (chkAcc s.params.chk s.rxLen _) b
    rw [← h.sum hr]

/-- The claimed checksum keeps the receive half (42_receive.md R154, R155). -/
theorem claim_rxInv {b : Byte} {s : State} (h : s.RxInv) (hs : s.rxState = .readChecksum)
    (hb : s.params.topology = .early → b = chkFinal s.rxAcc) :
    State.RxInv { s with rxClaimed := b, rxState := .waitEnd } :=
  have hr : s.rxState.receiving = true := by simp [hs, RxState.receiving]
  { data := by simp
    fits := fun _ => h.fits hr
    tail := fun _ => h.tail (.inl hs)
    accHigh := h.accHigh
    checked := by simpa using hb
    listed := fun _ => h.listed hr
    sum := fun _ => h.sum hr }

/-- The end of a good frame keeps the receive half: DEFERRED has just tested the checksum, EARLY had
(42_receive.md R156, R157). -/
theorem complete_rxInv {s : State} (h : s.RxInv) (hs : s.rxState = .waitEnd)
    (hk : s.params.topology = .deferred → s.rxClaimed = chkFinal s.rxAcc) :
    State.RxInv { s with rxState := .ready } :=
  have hr : s.rxState.receiving = true := by simp [hs, RxState.receiving]
  { data := by simp
    fits := fun _ => h.fits hr
    tail := fun _ => h.tail (.inr (.inl hs))
    accHigh := h.accHigh
    checked := fun _ => by
      cases ht : s.params.topology with
      | deferred => exact hk ht
      | early => exact h.checked (.inr ⟨hs, ht⟩)
    listed := fun _ => h.listed hr
    sum := fun _ => h.sum hr }

/-- Every arm of RX_BYTE keeps the receive half. -/
theorem rxArm_rxInv {b : Byte} {s : State} {o : RxOut} (h : s.RxInv) (ho : rxArm b s = some o) :
    o.state.RxInv := by
  rcases rxArm_state ho with ⟨_, _, _, _, he⟩ | ⟨_, hst, he⟩ | ⟨hl, he⟩ | ⟨hs, hlt, hm, he⟩ | ⟨hs, hb, he⟩ |
    ⟨hs, hk, he⟩ <;> rw [he]
  · exact .of_not_receiving rfl h.accHigh
  · exact .of_not_receiving hst h.accHigh
  · exact startFrame_rxInv hl
  · exact storeByte_rxInv h hs hlt hm
  · exact claim_rxInv h hs hb
  · exact complete_rxInv h hs hk

/-! ### Commands and steps -/

/-- With neither session under way and both accumulators 0 the session invariant holds. -/
theorem sessionInv_of_quiet {s : State} (htx : s.txState.busy = false) (hrx : s.rxState.receiving = false)
    (hta : s.txAcc = 0) (hra : s.rxAcc = 0) : s.SessionInv :=
  sessionInv_iff.2 ⟨.of_not_busy htx fun _ => by simp [hta], .of_not_receiving hrx fun _ => by simp [hra]⟩

/-- The block's reset establishes the session invariant (70_reset_and_hazards.md R240). -/
theorem resetBlock_sessionInv (s : State) : (resetBlock s).SessionInv := sessionInv_of_quiet rfl rfl rfl rfl

/-- An arm of TX_STEP leaves the receive session (41_transmit.md R123 to R127). -/
theorem txArm_rxSession {s : State} {r : State × Byte} (hr : txArm s r) : r.1.rxSession = s.rxSession := by
  rw [txArm_frame hr]
  rfl

/-- An arm of RX_BYTE leaves the transmit session (42_receive.md R151 to R159). -/
theorem rxArm_txSession {b : Byte} {s : State} {o : RxOut} (ho : rxArm b s = some o) :
    o.state.txSession = s.txSession := by
  rw [(rxArm_frame ho).1]
  rfl

/-- Every command keeps the session invariant (10_state.md R37). -/
theorem exec_sessionInv {i : Instr} {s t : State} (h : s.SessionInv) (he : exec i s = .next t) : t.SessionInv := by
  have respond_keeps {u : State} (w : Word) (hu : u.SessionInv) : (respond w u).SessionInv := hu.congr rfl rfl
  obtain ⟨htx, hrx⟩ := sessionInv_iff.1 h
  rcases exec_next he with ⟨w, rfl⟩ | ⟨_, rfl⟩ | ⟨len, _, hl, rfl⟩ | ⟨_, _, rfl⟩ | ⟨r, _, hr, rfl⟩ |
    ⟨_, o, w, _, ho, rfl⟩ | ⟨_, w, _, _, _, rfl⟩ <;> apply respond_keeps
  · exact h
  · exact resetBlock_sessionInv s
  · exact sessionInv_iff.2 ⟨beginSend_txInv hl, hrx.congr rfl⟩
  · exact sessionInv_iff.2 ⟨.of_not_busy rfl htx.accHigh, hrx.congr rfl⟩
  · exact sessionInv_iff.2 ⟨txArm_txInv htx hr, hrx.congr (txArm_rxSession hr)⟩
  · exact sessionInv_iff.2 ⟨htx.congr (rxArm_txSession ho), rxArm_rxInv hrx ho⟩
  · exact sessionInv_iff.2 ⟨htx.congr rfl, .of_not_receiving rfl fun _ => by simp⟩

/-- Moving a byte out is TX_STEP and a change of the channel (20_memory.md R65). -/
theorem moveOut_sessionInv {s t : State} (h : s.SessionInv) (ht : moveOut s = .next t) : t.SessionInv := by
  obtain ⟨_, rfl⟩ | ⟨_, u, hu, rfl⟩ := moveOut_next ht
  · exact h
  · obtain ⟨_, hd⟩ := deliver_eq u
    rw [hd]
    exact (exec_sessionInv h hu).congr rfl rfl

/-- Offering a byte is RX_BYTE and a change of the byte held (20_memory.md R65). -/
theorem offer_sessionInv {b : Byte} {s t : State} (h : s.SessionInv) (ht : offer b s = .next t) :
    t.SessionInv := by
  obtain ⟨u, hu, rfl⟩ := offer_next ht
  obtain ⟨_, hk⟩ := keep_eq b u
  rw [hk]
  exact (exec_sessionInv h hu).congr rfl rfl

/-- Moving a byte in waits or offers a byte (20_memory.md R65). -/
theorem moveIn_sessionInv {s t : State} (h : s.SessionInv) (ht : moveIn s = .next t) : t.SessionInv := by
  obtain ⟨b, _, ho⟩ | ⟨_, _, rfl⟩ | ⟨_, _, ho⟩ := moveIn_next ht
  · exact offer_sessionInv h ho
  · exact h
  · refine offer_sessionInv ?_ ho
    exact h.congr rfl rfl

/-- Every action of the host and of the environment keeps the session invariant. -/
theorem perform_sessionInv {a : HostAction} {s t : State} (h : s.SessionInv) (ht : perform a s = .next t) :
    t.SessionInv := by
  cases a with
  | command w =>
    obtain ⟨i, _, hi⟩ := issue_next ht
    exact exec_sessionInv h hi
  | writeTx a b => cases ht; exact h.congr rfl rfl
  | resetInput => cases ht; exact resetBlock_sessionInv s
  | moveOut => exact moveOut_sessionInv h ht
  | moveIn => exact moveIn_sessionInv h ht
  | link c e =>
    cases ht
    obtain ⟨_, _, hl⟩ := linkState_eq c e s
    rw [hl]
    exact h.congr rfl rfl

/-- Settles O51: a step waits or performs one action, and each action keeps both halves of the invariant. -/
theorem everyStepKeepsTheSessionInvariant : Obligations.EveryStepKeepsTheSessionInvariant := by
  intro s t h ht
  obtain ⟨_, rfl⟩ | ⟨a, rest, _, ha⟩ := step_next ht
  · exact h
  · refine perform_sessionInv ?_ ha
    exact h.congr rfl rfl

end Sys2Proof.Machine

namespace Sys2Proof.Machine

/-! `last_error` (10_state.md R32). -/

/-- An arm of RX_BYTE keeps `last_error`, or enters `Error` from another state with a cause
(60_exceptions.md R217). -/
theorem rxArm_lastError {b : Byte} {s : State} {o : RxOut} (h : rxArm b s = some o) :
    o.state.lastError = s.lastError ∨
      (s.rxState ≠ .error ∧ o.state.rxState = .error ∧ o.state.lastError ≠ .none) := by
  rcases rxArm_state h with ⟨hs, c, k, hc, he⟩ | ⟨_, _, he⟩ | ⟨_, he⟩ | ⟨_, _, _, he⟩ | ⟨_, _, he⟩ |
    ⟨_, _, he⟩ <;> rw [he]
  · exact .inr ⟨hs, rfl, hc⟩
  all_goals exact .inl rfl

/-- Settles O31: of all that a command can do, only the block's reset and an arm of RX_BYTE write `last_error`. -/
theorem onlyErrorEntryAndResetWriteLastError : Obligations.OnlyErrorEntryAndResetWriteLastError := by
  intro i s t h
  rcases exec_next h with ⟨_, rfl⟩ | ⟨hi, rfl⟩ | ⟨_, _, _, rfl⟩ | ⟨_, _, rfl⟩ | ⟨r, _, hr, rfl⟩ |
    ⟨b, o, _, hi, ho, rfl⟩ | ⟨_, _, _, _, _, rfl⟩
  · exact .inl rfl
  · exact .inr (.inl ⟨hi, rfl⟩)
  · exact .inl rfl
  · exact .inl rfl
  · left
    rw [respond_lastError, txArm_frame hr]
  · exact (rxArm_lastError ho).imp_right fun ⟨hs, ht, hc⟩ => .inr ⟨⟨b, hi⟩, hs, ht, hc⟩
  · exact .inl rfl

end Sys2Proof.Machine

namespace Sys2Proof.Machine

/-! The faults of a command (60_exceptions.md R222). -/

/-- TX_STEP faults only in `SendData` with the gate open and the cursor not below the length
(41_transmit.md R125). -/
theorem execTxStep_fault {g : Bool} {s : State} {f : Fault} (h : execTxStep g s = .fault f) :
    g = true ∧ s.txState = .sendData ∧ ¬ s.txCursor < s.txLen ∧ f = .invariant (encode (.txStep true)) := by
  unfold execTxStep at h
  cases g <;> cases hs : s.txState <;>
    simp only [hs, produce, produceNothing, Bool.false_eq_true, if_false, if_true] at h
  case true.sendData =>
    split at h <;> cases h
    exact ⟨rfl, rfl, ‹_›, rfl⟩
  all_goals cases h

/-- A command faults only as TX_BEGIN above `MAX_PAYLOAD`, or as TX_STEP in the state of R125
(60_exceptions.md R222). -/
theorem exec_fault {i : Instr} {s : State} {f : Fault} (h : exec i s = .fault f) :
    (∃ len, i = .txBegin len ∧ s.params.maxPayload < len ∧ f = .precondition (encode (.txBegin len))) ∨
      (i = .txStep true ∧ s.txState = .sendData ∧ ¬ s.txCursor < s.txLen ∧
        f = .invariant (encode (.txStep true))) := by
  cases i with
  | nop => cases h
  | status => cases h
  | reset => cases h
  | rxByte b => obtain ⟨t, ht⟩ := exec_rxByte_answers b s; simp [ht] at h
  | rxTake cap => obtain ⟨t, ht⟩ := exec_rxTake_answers cap s; simp [ht] at h
  | txBegin len =>
    simp only [exec, execTxBegin] at h
    split at h
    · cases h; exact .inl ⟨len, rfl, ‹_›, rfl⟩
    · split at h <;> cases h
  | txStep g =>
    obtain ⟨rfl, hs, hc, hf⟩ := execTxStep_fault h
    exact .inr ⟨rfl, hs, hc, hf⟩

/-- The value of a packed word (30_encoding.md R80). -/
theorem packWord_eq_ofNat (op : BitVec 4) (arg : Byte) :
    packWord op arg = BitVec.ofNat 16 (op.toNat * 4096 + arg.toNat) := by
  apply BitVec.eq_of_toNat_eq
  have hop := op.isLt
  have harg := arg.isLt
  simp only [packWord, BitVec.toNat_append, BitVec.toNat_ofNat, ← Nat.shiftLeft_add_eq_or_of_lt harg]
  simp [Nat.shiftLeft_eq]
  omega

/-- Settles O36: of the two faults a command can raise, the invariant shuts out the one of TX_STEP. -/
theorem onlyPreconditionFaultsUnderTheInvariant : Obligations.OnlyPreconditionFaultsUnderTheInvariant := by
  intro i s f h hf
  obtain ⟨len, hi, hl, rfl⟩ | ⟨_, hs, hc, _⟩ := exec_fault hf
  · exact ⟨len, hi, hl, congrArg Fault.precondition (packWord_eq_ofNat 0x1 len)⟩
  · exact absurd (h.txData hs) hc

end Sys2Proof.Machine

namespace Sys2Proof.Machine

/-! The power-on state (10_state.md R38). -/

/-- Settles O8: the registers stand in `State.reset`, and the word `0x5000` runs STATUS. -/
theorem powerOnRegisters : Obligations.PowerOnRegisters := by
  have hstatus : decode 0x5000 = .ok .status := by decide
  have hstep : step (State.reset.withFetchWord 16 0x5000) = .next (respond (statusWord State.reset) State.reset) :=
    (step_command rfl).trans (issue_of_decode hstatus _)
  exact ⟨rfl, rfl, rfl, rfl, rfl, rfl, rfl, rfl, rfl, rfl, hstep⟩

/-- Settles O50: neither session is under way at power-on, and no memory lists a cell. -/
theorem powerOnStateMeetsTheInvariants : Obligations.PowerOnStateMeetsTheInvariants := by
  refine ⟨sessionInv_of_quiet rfl rfl rfl rfl, ?_⟩
  obtain ⟨htx, hrx, hout⟩ := reset_memory_wf
  exact ⟨htx, hrx, hout, by simp [State.reset], by simp [State.reset], by simp [State.reset]⟩

end Sys2Proof.Machine

namespace Sys2Proof.Machine

/-! Unwritten RXBUF cells are never observed (10_state.md R31, 70_reset_and_hazards.md R240). The second state is the
first with another buffer; each command commutes with that exchange. -/

/-- The state with another RXBUF, listed and unlisted cells alike. -/
def State.withBuffer (m : Memory) (d : Nat) (s : State) : State := { s with rxbuf := m, draws := d }

@[simp] theorem withBuffer_params (m : Memory) (d : Nat) (s : State) : (s.withBuffer m d).params = s.params := rfl
@[simp] theorem withBuffer_txState (m : Memory) (d : Nat) (s : State) : (s.withBuffer m d).txState = s.txState := rfl
@[simp] theorem withBuffer_rxState (m : Memory) (d : Nat) (s : State) : (s.withBuffer m d).rxState = s.rxState := rfl
@[simp] theorem withBuffer_rxLen (m : Memory) (d : Nat) (s : State) : (s.withBuffer m d).rxLen = s.rxLen := rfl
@[simp] theorem withBuffer_rxCursor (m : Memory) (d : Nat) (s : State) : (s.withBuffer m d).rxCursor = s.rxCursor := rfl
@[simp] theorem withBuffer_rxAcc (m : Memory) (d : Nat) (s : State) : (s.withBuffer m d).rxAcc = s.rxAcc := rfl
@[simp] theorem withBuffer_rxClaimed (m : Memory) (d : Nat) (s : State) :
    (s.withBuffer m d).rxClaimed = s.rxClaimed := rfl

/-- Outside a frame every buffer will do. -/
theorem sameButUnwritten_of_not_receiving {s : State} (m : Memory) (d : Nat) (hs : s.rxState.receiving = false) :
    s.SameButUnwritten (s.withBuffer m d) := ⟨rfl, fun h => by simp [hs] at h⟩

/-- What a step does outside the receive session does not matter. -/
theorem State.SameButUnwritten.congr {s t : State} {m : Memory} {d : Nat}
    (h : s.SameButUnwritten (s.withBuffer m d)) (he : t.rxSession = s.rxSession) :
    t.SameButUnwritten (t.withBuffer m d) := by
  simp only [State.rxSession, Prod.mk.injEq] at he
  obtain ⟨hp, hs, _, hc, _, _, hb, hd⟩ := he
  refine ⟨rfl, fun hr a ha => ?_⟩
  calc readRx (t.withBuffer m d) a
      _ = readRx (s.withBuffer m d) a := readRx_congr (t := t.withBuffer m d) (s := s.withBuffer m d) rfl hp rfl a
      _ = readRx s a := h.written (hs ▸ hr) a (hc ▸ ha)
      _ = readRx t a := (readRx_congr hb hp hd a).symm

/-! ### The transmit commands -/

/-- TX_BEGIN does not read RXBUF (41_transmit.md R120). -/
theorem execTxBegin_withBuffer {len : Byte} {s t : State} (m : Memory) (d : Nat)
    (h : execTxBegin len s = .next t) : execTxBegin len (s.withBuffer m d) = .next (t.withBuffer m d) := by
  obtain ⟨hl, ⟨hb, rfl⟩ | ⟨hb, rfl⟩⟩ := execTxBegin_next h <;>
    · simp only [execTxBegin, withBuffer_params, withBuffer_txState, hl, hb, Bool.false_eq_true, if_false, if_true]
      rfl

/-- An accepted or refused TX_BEGIN leaves the receive session (60_exceptions.md R220). -/
theorem execTxBegin_rxSession {len : Byte} {s t : State} (h : execTxBegin len s = .next t) :
    t.rxSession = s.rxSession := by
  obtain ⟨_, ⟨_, rfl⟩ | ⟨_, rfl⟩⟩ := execTxBegin_next h <;> rfl

/-- TX_STEP in `Idle`, or with the gate closed, produces nothing (41_transmit.md R121, R122). -/
theorem execTxStep_waits {g : Bool} {s : State} (h : s.txState = .idle ∨ (s.txState.busy = true ∧ g = false)) :
    execTxStep g s = produceNothing s := by
  rcases h with hs | ⟨hs, rfl⟩
  · simp only [execTxStep, hs]
  · cases ht : s.txState <;> simp [ht, TxState.busy] at hs <;> simp [execTxStep, ht]

/-- TX_STEP in `Done` goes to `Idle` (41_transmit.md R128). -/
theorem execTxStep_done {g : Bool} {s : State} (h : s.txState = .done) :
    execTxStep g s = produceNothing { s with txState := .idle } := by
  simp only [execTxStep, h]

/-- TX_STEP with the gate open runs the arm of its state (41_transmit.md R123 to R127). -/
theorem execTxStep_of_txArm {s : State} {r : State × Byte} (h : txArm s r) : execTxStep true s = produce r := by
  rcases h with ⟨hs, rfl⟩ | ⟨hs, rfl⟩ | ⟨hs, hlt, rfl⟩ | ⟨hs, rfl⟩ | ⟨hs, rfl⟩
  case inr.inr.inl => simp only [execTxStep, hs, hlt, if_true]
  all_goals simp only [execTxStep, hs, if_true]

/-- No arm of TX_STEP reads RXBUF. -/
theorem txArm_withBuffer {s : State} {r : State × Byte} (m : Memory) (d : Nat) (h : txArm s r) :
    txArm (s.withBuffer m d) (r.1.withBuffer m d, r.2) := by
  rcases h with ⟨hs, rfl⟩ | ⟨hs, rfl⟩ | ⟨hs, hlt, rfl⟩ | ⟨hs, rfl⟩ | ⟨hs, rfl⟩
  · exact .inl ⟨hs, rfl⟩
  · exact .inr (.inl ⟨hs, rfl⟩)
  · exact .inr (.inr (.inl ⟨hs, hlt, rfl⟩))
  · exact .inr (.inr (.inr (.inl ⟨hs, rfl⟩)))
  · exact .inr (.inr (.inr (.inr ⟨hs, rfl⟩)))

/-- TX_STEP does not read RXBUF (41_transmit.md R121). -/
theorem execTxStep_withBuffer {g : Bool} {s t : State} (m : Memory) (d : Nat) (h : execTxStep g s = .next t) :
    execTxStep g (s.withBuffer m d) = .next (t.withBuffer m d) := by
  obtain ⟨hs, rfl⟩ | ⟨hs, rfl⟩ | ⟨rfl, r, hr, rfl⟩ := execTxStep_next h
  · exact execTxStep_waits hs
  · exact execTxStep_done hs
  · exact execTxStep_of_txArm (txArm_withBuffer m d hr)

/-- TX_STEP leaves the receive session (60_exceptions.md R220). -/
theorem execTxStep_rxSession {g : Bool} {s t : State} (h : execTxStep g s = .next t) :
    t.rxSession = s.rxSession := by
  obtain ⟨_, rfl⟩ | ⟨_, rfl⟩ | ⟨_, r, hr, rfl⟩ := execTxStep_next h
  · rfl
  · rfl
  · exact txArm_rxSession hr

/-! ### RX_BYTE -/

/-- What an arm of RX_BYTE gives, with another RXBUF. -/
def RxOut.withBuffer (m : Memory) (d : Nat) (o : RxOut) : RxOut := { o with state := o.state.withBuffer m d }

/-- RX_BYTE stores its byte: the guard of 42_receive.md R153 is met in `ReadData`. -/
def State.stores (s : State) : Prop :=
  s.rxState = .readData ∧ s.rxCursor < s.rxLen ∧ s.rxCursor < s.params.maxPayload

/-- A data byte that is not stored overruns the buffer (42_receive.md R153). -/
theorem rxReadData_of_not_stores {b : Byte} {s : State} (hs : s.rxState = .readData) (hn : ¬ s.stores) :
    rxReadData b s = rxFail .bufferOverrun s := by
  refine if_pos ?_
  by_contra hg
  simp only [not_or, BitVec.not_le] at hg
  exact hn ⟨hs, hg⟩

/-- A data byte that is stored (42_receive.md R153). -/
theorem rxArm_of_stores {s : State} (b : Byte) (h : s.stores) : rxArm b s = some (rxPlain (storeByte b s)) := by
  obtain ⟨hs, hlt, hm⟩ := h
  have hg : ¬ (s.rxLen ≤ s.rxCursor ∨ s.params.maxPayload ≤ s.rxCursor) := by
    simp only [not_or, BitVec.not_le]
    exact ⟨hlt, hm⟩
  simp only [rxArm, hs, rxReadData, if_neg hg]
  rfl

/-- An arm of RX_BYTE that stores nothing does not look at RXBUF (42_receive.md R151 to R159). -/
theorem rxArm_withBuffer {b : Byte} {s : State} {o : RxOut} (m : Memory) (d : Nat) (hn : ¬ s.stores)
    (h : rxArm b s = some o) : rxArm b (s.withBuffer m d) = some (o.withBuffer m d) := by
  cases hs : s.rxState <;> simp only [rxArm, hs, withBuffer_rxState, Option.some.injEq, reduceCtorEq] at h ⊢ <;>
    subst h
  case waitStart => by_cases hb : b = stx <;> simp only [rxWaitStart, hb, if_true, if_false] <;> rfl
  case readLength =>
    by_cases hl : s.params.maxPayload < b <;>
      simp only [rxReadLength, withBuffer_params, hl, if_true, if_false] <;> rfl
  case readData =>
    rw [rxReadData_of_not_stores hs hn, rxReadData_of_not_stores (s := s.withBuffer m d) hs hn]
    rfl
  case readChecksum =>
    simp only [rxReadChecksum, withBuffer_params]
    cases s.params.topology
    · rfl
    · by_cases hb : b = chkFinal s.rxAcc <;>
        simp only [rxReadChecksumEarly, withBuffer_rxAcc, hb, if_true, if_false] <;> rfl
  case waitEnd =>
    simp only [rxWaitEnd, withBuffer_params]
    cases s.params.topology
    · by_cases hb : b = etx <;> by_cases hk : s.rxClaimed = chkFinal s.rxAcc <;>
        simp only [rxWaitEndDeferred, withBuffer_rxAcc, withBuffer_rxClaimed, hb, hk, ne_eq, not_true, not_false_iff,
          if_true, if_false] <;> rfl
    · by_cases hb : b = etx <;>
        simp only [rxWaitEndEarly, hb, ne_eq, not_true, not_false_iff, if_true, if_false] <;> rfl
  case error => by_cases hb : b = stx <;> simp only [rxResync, hb, if_true, if_false] <;> rfl

/-- A store makes the same cell known in both buffers (42_receive.md R153). -/
theorem storeByte_sameButUnwritten {s : State} {m : Memory} {d : Nat} (b : Byte) (h : s.stores)
    (hw : s.SameButUnwritten (s.withBuffer m d)) :
    (storeByte b s).SameButUnwritten ((storeByte b s).withBuffer (m.write s.rxCursor.toNat b) d) := by
  obtain ⟨hs, hlt, hm⟩ := h
  refine ⟨rfl, fun _ a ha => ?_⟩
  change readRx (storeByte b (s.withBuffer m d)) a = readRx (storeByte b s) a
  have hc : (storeByte b s).rxCursor.toNat = s.rxCursor.toNat + 1 := succ_toNat_of_byte_lt hlt
  rw [readRx_storeByte b hm, readRx_storeByte (s := s.withBuffer m d) b hm, withBuffer_rxCursor]
  split
  · rfl
  · exact hw.written (by simp [hs, RxState.receiving]) a (by omega)

/-- An arm that stores nothing keeps every cell that was known, or leaves the frame. -/
theorem rxArm_sameButUnwritten {b : Byte} {s : State} {o : RxOut} {m : Memory} {d : Nat} (hn : ¬ s.stores)
    (hw : s.SameButUnwritten (s.withBuffer m d)) (ho : rxArm b s = some o) :
    o.state.SameButUnwritten (o.state.withBuffer m d) := by
  rcases rxArm_state ho with ⟨_, _, _, _, he⟩ | ⟨_, hst, he⟩ | ⟨_, he⟩ | ⟨hs, hlt, hm, _⟩ | ⟨hs, _, he⟩ |
    ⟨hs, _, he⟩
  · rw [he]; exact sameButUnwritten_of_not_receiving m d rfl
  · rw [he]; exact sameButUnwritten_of_not_receiving m d hst
  · rw [he]; exact ⟨rfl, fun _ a ha => absurd ha (Nat.not_lt_zero a)⟩
  · exact absurd ⟨hs, hlt, hm⟩ hn
  · rw [he]; exact ⟨rfl, fun _ => hw.written (by simp [hs, RxState.receiving])⟩
  · rw [he]; exact ⟨rfl, fun _ => hw.written (by simp [hs, RxState.receiving])⟩

/-- RX_BYTE runs the same arm on another buffer, and the buffers again agree on what the frame has written
(42_receive.md R150). -/
theorem execRxByte_withBuffer {b : Byte} {s t : State} {m : Memory} {d : Nat}
    (hw : s.SameButUnwritten (s.withBuffer m d)) (h : execRxByte b s = .next t) :
    ∃ m', execRxByte b (s.withBuffer m d) = .next (t.withBuffer m' d) ∧
      t.SameButUnwritten (t.withBuffer m' d) := by
  obtain ⟨hs, rfl⟩ | ⟨o, ho, rfl⟩ := execRxByte_next h
  · refine ⟨m, ?_, hw.congr rfl⟩
    simp only [execRxByte, rxArm, withBuffer_rxState, hs]
    rfl
  · by_cases hst : s.stores
    · obtain rfl : rxPlain (storeByte b s) = o := by simpa [rxArm_of_stores b hst] using ho
      exact ⟨m.write s.rxCursor.toNat b, exec_rxByte_of_arm (rxArm_of_stores (s := s.withBuffer m d) b hst),
        (storeByte_sameButUnwritten b hst hw).congr rfl⟩
    · exact ⟨m, exec_rxByte_of_arm (rxArm_withBuffer m d hst ho), (rxArm_sameButUnwritten hst hw ho).congr rfl⟩

/-! ### RX_TAKE -/

/-- The copy reads only the cells below its length (43_collect_control.md R190). -/
theorem copyOut_congr {s t : State} {n : Nat} (ho : t.hostout = s.hostout)
    (h : ∀ a, a < n → readRx t a = readRx s a) : copyOut t n = copyOut s n := by
  induction n with
  | zero => exact ho
  | succ n ih => simp only [copyOut, h n n.lt_succ_self, ih fun a ha => h a (Nat.lt_succ_of_lt ha)]

/-- RX_TAKE outside `Ready`, or with too small a capacity, returns nothing (43_collect_control.md R190). -/
theorem execRxTake_nothing {cap : Byte} {s : State} (h : s.rxState ≠ .ready ∨ cap < s.rxLen) :
    execRxTake cap s = takeNothing s := by
  cases hs : s.rxState with
  | ready => simp only [execRxTake, hs, h.resolve_left (not_not.2 hs), if_true]
  | _ => simp only [execRxTake, hs]

/-- RX_TAKE of a frame that fits (43_collect_control.md R190). -/
theorem execRxTake_frame {cap : Byte} {s : State} (hs : s.rxState = .ready) (hc : ¬ cap < s.rxLen) :
    execRxTake cap s = .next (respond (rxTakeResponse (some s.rxLen)) (takeFrame s)) := by
  simp only [execRxTake, hs, hc, if_false]

/-- A frame in `Ready` was written whole, so its copy is the same from either buffer (10_state.md R37 item 4). -/
theorem takeFrame_withBuffer {s : State} {m : Memory} {d : Nat} (h : s.SessionInv)
    (hw : s.SameButUnwritten (s.withBuffer m d)) (hs : s.rxState = .ready) :
    takeFrame (s.withBuffer m d) = (takeFrame s).withBuffer m d := by
  have hcopy : copyOut (s.withBuffer m d) s.rxLen.toNat = copyOut s s.rxLen.toNat := by
    refine copyOut_congr rfl fun a ha => hw.written (by simp [hs, RxState.receiving]) a ?_
    rwa [h.rxTail (.inr (.inr hs))]
  simp only [takeFrame, withBuffer_rxLen, hcopy]
  rfl

/-- RX_TAKE gives the same from either buffer (43_collect_control.md R190). -/
theorem execRxTake_withBuffer {cap : Byte} {s t : State} {m : Memory} {d : Nat} (hinv : s.SessionInv)
    (hw : s.SameButUnwritten (s.withBuffer m d)) (h : execRxTake cap s = .next t) :
    execRxTake cap (s.withBuffer m d) = .next (t.withBuffer m d) ∧ t.SameButUnwritten (t.withBuffer m d) := by
  obtain ⟨hs, rfl⟩ | ⟨hs, hc, rfl⟩ := execRxTake_next h
  · exact ⟨execRxTake_nothing hs, hw.congr rfl⟩
  · refine ⟨?_, sameButUnwritten_of_not_receiving m d rfl⟩
    rw [execRxTake_frame (s := s.withBuffer m d) hs hc, takeFrame_withBuffer hinv hw hs]
    rfl

/-! ### Every command -/

/-- Every command answers alike on another buffer that agrees on what the frame has written. -/
theorem exec_withBuffer {i : Instr} {s t : State} {m : Memory} {d : Nat} (hinv : s.SessionInv)
    (hw : s.SameButUnwritten (s.withBuffer m d)) (h : exec i s = .next t) :
    ∃ m' d', exec i (s.withBuffer m d) = .next (t.withBuffer m' d') ∧
      t.SameButUnwritten (t.withBuffer m' d') := by
  cases i with
  | nop => cases h; exact ⟨m, d, rfl, hw.congr rfl⟩
  | txBegin len => exact ⟨m, d, execTxBegin_withBuffer m d h, hw.congr (execTxBegin_rxSession h)⟩
  | txStep g => exact ⟨m, d, execTxStep_withBuffer m d h, hw.congr (execTxStep_rxSession h)⟩
  | rxByte b =>
    obtain ⟨m', hm⟩ := execRxByte_withBuffer hw h
    exact ⟨m', d, hm⟩
  | rxTake cap => exact ⟨m, d, execRxTake_withBuffer hinv hw h⟩
  | status => cases h; exact ⟨m, d, rfl, hw.congr rfl⟩
  | reset => cases h; exact ⟨[], d + 1, rfl, sameButUnwritten_of_not_receiving [] (d + 1) rfl⟩

/-- Settles O53: the second state is the first with another buffer, and every command commutes with the
exchange. -/
theorem unwrittenBufferCellsAreNeverObserved : Obligations.UnwrittenBufferCellsAreNeverObserved := by
  intro i s s' t hinv hsame h
  have hs' : s' = s.withBuffer s'.rxbuf s'.draws := hsame.rest
  rw [hs'] at hsame ⊢
  obtain ⟨m', d', ht, hw⟩ := exec_withBuffer hinv hsame h
  exact ⟨t.withBuffer m' d', ht, hw⟩

end Sys2Proof.Machine

namespace Sys2Proof.Machine

/-! Steps by the oldest pending action (20_memory.md R57). -/

/-- With an action next, a step performs it and takes it from the pending list (20_memory.md R57). -/
theorem step_of_pending {s : State} {a : HostAction} {rest : List HostAction} (h : s.pending = a :: rest) :
    step s = perform a { s with pending := rest } := by
  simp only [step, stepPending, h]

/-- What a step keeps: a property that depends on neither the channels nor the host's byte and list, and that every
command, a TXMEM write and the block's reset keep, is kept by every step. -/
theorem step_keeps {P : State → Prop}
    (hside : ∀ s x y k l, P s → P { s with txChan := x, rxChan := y, held := k, pending := l })
    (hexec : ∀ i s t, P s → exec i s = .next t → P t)
    (hwrite : ∀ a b s, P s → P (hostWriteTx a b s))
    (hreset : ∀ s, P s → P (resetBlock s)) {s t : State} (h : P s) (ht : step s = .next t) : P t := by
  have hoffer {b : Byte} {u v : State} (hu : P u) (hv : offer b u = .next v) : P v := by
    obtain ⟨w, hw, rfl⟩ := offer_next hv
    obtain ⟨k, hk⟩ := keep_eq b w
    rw [hk]
    exact hside w w.txChan w.rxChan k w.pending (hexec _ _ _ hu hw)
  obtain ⟨_, rfl⟩ | ⟨a, rest, _, ha⟩ := step_next ht
  · exact h
  have hs : P { s with pending := rest } := hside s s.txChan s.rxChan s.held rest h
  generalize { s with pending := rest } = u at hs ha
  cases a with
  | command w =>
    obtain ⟨i, _, hi⟩ := issue_next ha
    exact hexec i u t hs hi
  | writeTx a b => cases ha; exact hwrite a b u hs
  | resetInput => cases ha; exact hreset u hs
  | moveOut =>
    obtain ⟨_, rfl⟩ | ⟨_, v, hv, rfl⟩ := moveOut_next ha
    · exact hs
    · obtain ⟨x, hx⟩ := deliver_eq v
      rw [hx]
      exact hside v x v.rxChan v.held v.pending (hexec _ _ _ hs hv)
  | moveIn =>
    obtain ⟨b, _, ho⟩ | ⟨_, _, rfl⟩ | ⟨_, _, ho⟩ := moveIn_next ha
    · exact hoffer hs ho
    · exact hs
    · exact hoffer (hside u u.txChan { u.rxChan with full := false } u.held u.pending hs) ho
  | link c e =>
    cases ha
    obtain ⟨x, y, hl⟩ := linkState_eq c e u
    rw [hl]
    exact hside u x y u.held u.pending hs

end Sys2Proof.Machine

namespace Sys2Proof.Machine

/-! The three byte spaces (20_memory.md R50): what a command can do to them, said once. -/

/-- The three byte spaces, with the parameters and the reset count on which what they read as depends. -/
def State.spaces (s : State) : Params × Memory × Memory × Memory × Nat :=
  (s.params, s.txmem, s.rxbuf, s.hostout, s.draws)

theorem readTx_of_spaces {s t : State} (h : t.spaces = s.spaces) (a : Nat) : readTx t a = readTx s a := by
  simp only [State.spaces, Prod.mk.injEq] at h
  simp only [readTx, h]

theorem readRx_of_spaces {s t : State} (h : t.spaces = s.spaces) (a : Nat) : readRx t a = readRx s a := by
  simp only [State.spaces, Prod.mk.injEq] at h
  simp only [readRx, h]

theorem readOut_of_spaces {s t : State} (h : t.spaces = s.spaces) (a : Nat) : readOut t a = readOut s a := by
  simp only [State.spaces, Prod.mk.injEq] at h
  simp only [readOut, h]

/-- An arm of TX_STEP writes no space (20_memory.md R50). -/
theorem txArm_spaces {s : State} {r : State × Byte} (h : txArm s r) : r.1.spaces = s.spaces := by
  rw [txArm_frame h]
  rfl

/-- An arm of RX_BYTE writes no space but RXBUF, and that only by a store (42_receive.md R153). -/
theorem rxArm_spaces {b : Byte} {s : State} {o : RxOut} (h : rxArm b s = some o) :
    o.state.spaces = s.spaces ∨ (s.stores ∧ o.state.spaces = (storeByte b s).spaces) := by
  rcases rxArm_state h with ⟨_, _, _, _, he⟩ | ⟨_, _, he⟩ | ⟨_, he⟩ | ⟨hs, hlt, hm, he⟩ | ⟨_, _, he⟩ |
    ⟨_, _, he⟩ <;> rw [he]
  case inr.inr.inr.inl => exact .inr ⟨⟨hs, hlt, hm⟩, rfl⟩
  all_goals exact .inl rfl

/-- What a command can do to the spaces (20_memory.md R50): nothing, the block's reset, a store of RX_BYTE, or the
copy of RX_TAKE. -/
theorem exec_spaces {i : Instr} {s t : State} (h : exec i s = .next t) :
    t.spaces = s.spaces ∨ (i = .reset ∧ t.spaces = (resetBlock s).spaces) ∨
      (∃ b, i = .rxByte b ∧ s.stores ∧ t.spaces = (storeByte b s).spaces) ∨
      (∃ cap, i = .rxTake cap ∧ s.rxState = .ready ∧ t.spaces = (takeFrame s).spaces) := by
  rcases exec_next h with ⟨_, rfl⟩ | ⟨hi, rfl⟩ | ⟨_, _, _, rfl⟩ | ⟨_, _, rfl⟩ | ⟨r, _, hr, rfl⟩ |
    ⟨b, o, _, hi, ho, rfl⟩ | ⟨cap, _, hi, hs, _, rfl⟩
  · exact .inl rfl
  · exact .inr (.inl ⟨hi, rfl⟩)
  · exact .inl rfl
  · exact .inl rfl
  · exact .inl (txArm_spaces hr)
  · exact (rxArm_spaces ho).imp_right fun ⟨hs, he⟩ => .inr (.inl ⟨b, hi, hs, he⟩)
  · exact .inr (.inr (.inr ⟨cap, hi, hs, rfl⟩))

@[simp] theorem readTx_storeByte (b : Byte) (s : State) (a : Nat) : readTx (storeByte b s) a = readTx s a := rfl
@[simp] theorem readOut_storeByte (b : Byte) (s : State) (a : Nat) : readOut (storeByte b s) a = readOut s a := rfl

/-- HOSTOUT after a collection (43_collect_control.md R190). -/
theorem readOut_takeFrame (s : State) (a : Nat) :
    readOut (takeFrame s) a = if a < s.rxLen.toNat then readRx s a else readOut s a := by
  simp only [readOut, takeFrame_hostout, copyOut_read]
  split <;> rfl

/-- TXMEM after the host's write (20_memory.md R51, R57). -/
theorem readTx_hostWriteTx (a b : Byte) (s : State) (k : Nat) :
    readTx (hostWriteTx a b s) k = if k = a.toNat then b else readTx s k := by
  simp only [readTx, hostWriteTx_txmem]
  by_cases hk : k = a.toNat
  · simp [hk]
  · simp [hk, Memory.read_write_other _ _ hk]

/-- Settles O32: of the four things a command can do to the spaces, each writes only the cells the statement
allows. -/
theorem eachSpaceHasItsOneWriter : Obligations.EachSpaceHasItsOneWriter := by
  intro i s t h
  rcases exec_spaces h with he | ⟨hi, he⟩ | ⟨b, hi, ⟨hs, _, hm⟩, he⟩ | ⟨cap, hi, hs, he⟩
  · exact ⟨readTx_of_spaces he, fun a => .inl (readOut_of_spaces he a), fun _ a => .inl (readRx_of_spaces he a)⟩
  · exact ⟨fun a => (readTx_of_spaces he a).trans (readTx_resetBlock s a),
      fun a => .inl ((readOut_of_spaces he a).trans (readOut_resetBlock s a)), fun hn => absurd hi hn⟩
  · refine ⟨fun a => (readTx_of_spaces he a).trans (readTx_storeByte b s a),
      fun a => .inl ((readOut_of_spaces he a).trans (readOut_storeByte b s a)), fun _ a => ?_⟩
    rw [readRx_of_spaces he, readRx_storeByte b hm]
    by_cases ha : a = s.rxCursor.toNat
    · exact .inr ⟨⟨b, hi⟩, hs, ha, ha ▸ hm⟩
    · exact .inl (if_neg ha)
  · refine ⟨fun a => (readTx_of_spaces he a).trans (readTx_takeFrame s a), fun a => ?_,
      fun _ a => .inl ((readRx_of_spaces he a).trans (readRx_takeFrame s a))⟩
    rw [readOut_of_spaces he, readOut_takeFrame]
    by_cases ha : a < s.rxLen.toNat
    · exact .inr ⟨⟨cap, hi⟩, hs, ha⟩
    · exact .inl (if_neg ha)

/-- Settles O45: the step is the host's write, and a memory reads as it was last written. -/
theorem hostWriteSetsOneTxmemCell : Obligations.HostWriteSetsOneTxmemCell := by
  intro s a b rest hp
  exact ⟨_, step_of_pending hp, rfl, readTx_hostWriteTx a b _⟩

/-! ### The memory invariant -/

/-- A memory in canonical form with every address below `n`. -/
def Memory.Within (n : Nat) (m : Memory) : Prop := m.wf ∧ ∀ c ∈ m, c.1 < n

/-- A write inside a space keeps it canonical and inside. -/
theorem Memory.Within.write {n a : Nat} {m : Memory} (h : Memory.Within n m) (b : Byte) (ha : a < n) :
    Memory.Within n (Memory.write m a b) := by
  refine ⟨Memory.wf_write a b h.1, fun c hc => ?_⟩
  obtain rfl | hc := Memory.mem_write hc
  · exact ha
  · exact h.2 c hc

/-- The memory invariant space by space (20_memory.md R50). -/
theorem memoryInv_iff {s : State} : s.MemoryInv ↔
    Memory.Within 256 s.txmem ∧ Memory.Within s.params.maxPayload.toNat s.rxbuf ∧ Memory.Within 255 s.hostout where
  mp h := ⟨⟨h.txmemWf, h.txmemIn⟩, ⟨h.rxbufWf, h.rxbufIn⟩, ⟨h.hostoutWf, h.hostoutIn⟩⟩
  mpr := fun ⟨⟨htw, hti⟩, ⟨hrw, hri⟩, ⟨how, hoi⟩⟩ => ⟨htw, hrw, how, hti, hri, hoi⟩

/-- The memory invariant depends on the spaces only. -/
theorem State.MemoryInv.congr {s t : State} (h : s.MemoryInv) (he : t.spaces = s.spaces) : t.MemoryInv := by
  simp only [State.spaces, Prod.mk.injEq] at he
  obtain ⟨hp, ht, hr, ho, _⟩ := he
  rw [memoryInv_iff, hp, ht, hr, ho]
  exact memoryInv_iff.1 h

/-- The copy of a frame stays inside HOSTOUT: a length is at most 255 (43_collect_control.md R190). -/
theorem copyOut_within {s : State} (h : Memory.Within 255 s.hostout) (len : Byte) :
    Memory.Within 255 (copyOut s len.toNat) := by
  refine ⟨copyOut_wf h.1 _, fun c hc => ?_⟩
  obtain hc | hc := copyOut_mem hc
  · have := len.isLt
    omega
  · exact h.2 c hc

theorem resetBlock_memoryInv {s : State} (h : s.MemoryInv) : (resetBlock s).MemoryInv :=
  have ⟨ht, _, ho⟩ := memoryInv_iff.1 h
  memoryInv_iff.2 ⟨ht, ⟨List.Pairwise.nil, by simp⟩, ho⟩

theorem hostWriteTx_memoryInv (a b : Byte) {s : State} (h : s.MemoryInv) : (hostWriteTx a b s).MemoryInv :=
  have ⟨ht, hr, ho⟩ := memoryInv_iff.1 h
  memoryInv_iff.2 ⟨ht.write b a.isLt, hr, ho⟩

/-- A store is inside RXBUF by the guard of 42_receive.md R153. -/
theorem storeByte_memoryInv (b : Byte) {s : State} (h : s.MemoryInv) (hst : s.stores) :
    (storeByte b s).MemoryInv :=
  have ⟨ht, hr, ho⟩ := memoryInv_iff.1 h
  have ⟨_, _, hm⟩ := hst
  memoryInv_iff.2 ⟨ht, hr.write b hm, ho⟩

theorem takeFrame_memoryInv {s : State} (h : s.MemoryInv) : (takeFrame s).MemoryInv :=
  have ⟨ht, hr, ho⟩ := memoryInv_iff.1 h
  memoryInv_iff.2 ⟨ht, hr, copyOut_within ho s.rxLen⟩

/-- Every command keeps the memory invariant. -/
theorem exec_memoryInv {i : Instr} {s t : State} (h : s.MemoryInv) (ht : exec i s = .next t) : t.MemoryInv := by
  rcases exec_spaces ht with he | ⟨_, he⟩ | ⟨b, _, hst, he⟩ | ⟨_, _, _, he⟩
  · exact h.congr he
  · exact (resetBlock_memoryInv h).congr he
  · exact (storeByte_memoryInv b h hst).congr he
  · exact (takeFrame_memoryInv h).congr he

/-- Settles O52: commands, the host's write and the reset keep the three spaces canonical, and nothing else of a
step touches them. -/
theorem everyStepKeepsTheMemoriesCanonical : Obligations.EveryStepKeepsTheMemoriesCanonical := by
  intro s t
  exact step_keeps (P := State.MemoryInv) (fun _ _ _ _ _ h => h.congr rfl) (fun _ _ _ => exec_memoryInv)
    (fun a b _ => hostWriteTx_memoryInv a b) (fun _ => resetBlock_memoryInv)

end Sys2Proof.Machine

namespace Sys2Proof.Machine

/-! The channels (20_memory.md R60 to R65). -/

/-- A put adds its byte behind the byte in flight, or is refused (20_memory.md R61). -/
theorem Channel.inFlight_tryPut (c : Channel) (b : Byte) :
    (c.tryPut b).1.inFlight = c.inFlight ++ if (c.tryPut b).2 then [b] else [] := by
  cases hf : c.full <;> simp [Channel.inFlight, hf]

/-- A get takes the byte in flight (20_memory.md R62). -/
theorem Channel.inFlight_tryGet (c : Channel) : c.tryGet.2.toList ++ c.tryGet.1.inFlight = c.inFlight := by
  cases hf : c.full <;> simp [Channel.inFlight, hf]

/-- Settles O46, by induction on the events: each put and each get conserves the bytes in order. -/
theorem channelKeepsTheOrder : Obligations.ChannelKeepsTheOrder := by
  intro c events
  induction events generalizing c with
  | nil => intro _; simp [Channel.trace]
  | cons e rest ih =>
    intro he
    have hrest (d : Channel) := ih d fun x hx => he x (List.mem_cons_of_mem _ hx)
    obtain rfl | ⟨b, rfl⟩ := he e List.mem_cons_self
    · simp only [Channel.trace, List.append_assoc, hrest]
      rw [← List.append_assoc, Channel.inFlight_tryGet]
    · simp only [Channel.trace, hrest, Channel.inFlight_tryPut]
      split <;> simp

/-- The event that makes an empty channel hold the wanted byte, or keeps it empty (20_memory.md R64). -/
def supply : Option Byte → LinkEvent
  | some b => .put b
  | none => .lose

/-- The link can lose what a channel holds and supply any byte, or none (20_memory.md R64). -/
theorem Channel.tryGet_supplied (c : Channel) (x : Option Byte) :
    ((c.linked .lose).linked (supply x)).tryGet.2 = x := by
  cases x <;> simp [supply, Channel.linked, Channel.tryPut, Channel.tryGet]

/-- Settles O47: the link loses the byte in flight, then supplies the wanted outcome. -/
theorem linkCanDeliverAnyByteOrNone : Obligations.LinkCanDeliverAnyByteOrNone := by
  intro s c x rest
  cases c with
  | tx => exact ⟨.lose, supply x, _, _, rfl, rfl, Channel.tryGet_supplied s.txChan x, rfl⟩
  | rx => exact ⟨.lose, supply x, _, _, rfl, rfl, Channel.tryGet_supplied s.rxChan x, rfl⟩

/-! ### Moving a byte out -/

/-- The byte the host reads from a TX_STEP response, as a number (30_encoding.md R89). -/
theorem txProduced_eq (w : Word) :
    txProduced w = if w.getLsbD 8 then some (BitVec.ofNat 8 (w.toNat % 256)) else none := by
  have hlow : w.extractLsb' 0 8 = BitVec.ofNat 8 (w.toNat % 256) := by
    apply BitVec.eq_of_toNat_eq
    simp
  simp only [txProduced, hlow]

/-- Delivering a response to a free channel (20_memory.md R61, R65). -/
theorem deliver_of_free {s : State} {w : Word} {ws : List Word} (hr : s.responses = w :: ws)
    (hf : s.txChan.full = false) :
    deliver s = if w.getLsbD 8 then
      { s with txChan := { slot := BitVec.ofNat 8 (w.toNat % 256), full := true } } else s := by
  simp only [deliver, hr, txProduced_eq]
  cases w.getLsbD 8
  · rfl
  · simp [hf]

/-- TX_STEP answers with one response word and leaves the channels (30_encoding.md R87, 41_transmit.md R121). -/
theorem execTxStep_response {g : Bool} {s t : State} (h : execTxStep g s = .next t) :
    (∃ w, t.responses = w :: s.responses) ∧ t.txChan = s.txChan := by
  obtain ⟨_, rfl⟩ | ⟨_, rfl⟩ | ⟨_, r, hr, rfl⟩ := execTxStep_next h
  · exact ⟨⟨_, rfl⟩, rfl⟩
  · exact ⟨⟨_, rfl⟩, rfl⟩
  · rw [txArm_frame hr]
    exact ⟨⟨_, rfl⟩, rfl⟩

/-- With the channel taken the host waits (20_memory.md R65). -/
theorem moveOut_of_full {s : State} (h : s.txChan.full = true) : moveOut s = .next s := by
  simp only [moveOut, h, if_true]

/-- With the channel free the host delivers what TX_STEP answers (20_memory.md R65). -/
theorem moveOut_of_free {s u : State} (h : s.txChan.full = false) (hu : exec (.txStep true) s = .next u) :
    moveOut s = .next (deliver u) := by
  simp only [moveOut, h, hu, Bool.false_eq_true, if_false]

/-- Settles O48: the host waits, or TX_STEP leaves the channel free and its response is delivered there. -/
theorem movingOutDeliversTheByte : Obligations.MovingOutDeliversTheByte := by
  intro s rest hp
  rw [step_of_pending hp]
  refine ⟨fun hf => moveOut_of_full hf, fun hf u hu => ?_⟩
  obtain ⟨⟨w, hw⟩, hc⟩ := execTxStep_response hu
  have hfree : u.txChan.full = false := hc ▸ hf
  refine ⟨w, hw, ?_⟩
  rw [← deliver_of_free hw hfree]
  exact moveOut_of_free hf hu

/-! ### Moving a byte in -/

/-- In `Ready` the byte is not consumed (42_receive.md R158). -/
theorem exec_rxByte_of_ready {s : State} (b : Byte) (h : s.rxState = .ready) :
    exec (.rxByte b) s = .next (respond 0x0002 s) := by
  simp only [exec, execRxByte, rxArm, h, rxByteResponse_ready]

/-- Outside `Ready` the byte is accepted (42_receive.md R150). -/
theorem exec_rxByte_of_not_ready {s : State} (b : Byte) (h : s.rxState ≠ .ready) :
    ∃ u w, exec (.rxByte b) s = .next (respond w u) ∧ rxAccepted w = true := by
  cases ha : rxArm b s with
  | some o => exact ⟨_, _, exec_rxByte_of_arm ha, rxAccepted_response _ _ _ _ _⟩
  | none => cases hs : s.rxState <;> simp [rxArm, hs] at ha h

/-- A byte offered in `Ready` is kept (20_memory.md R65). -/
theorem offer_of_ready {s : State} (b : Byte) (h : s.rxState = .ready) :
    offer b s = .next { s with held := some b, responses := 0x0002 :: s.responses } := by
  simp only [offer, exec_rxByte_of_ready b h]
  rfl

/-- A byte offered outside `Ready` is consumed by RX_BYTE, and none is kept (20_memory.md R65). -/
theorem offer_of_not_ready {s : State} (b : Byte) (h : s.rxState ≠ .ready) :
    ∃ u, exec (.rxByte b) s = .next u ∧ offer b s = .next { u with held := none } := by
  obtain ⟨u, w, hu, hw⟩ := exec_rxByte_of_not_ready b h
  refine ⟨_, hu, ?_⟩
  simp only [offer, hu, keep, respond_responses, hw, if_true]

/-- With no byte kept and the channel empty the host waits (20_memory.md R65). -/
theorem moveIn_of_empty {s : State} (hh : s.held = none) (hf : s.rxChan.full = false) : moveIn s = .next s := by
  simp only [moveIn, hh, Channel.tryGet_free hf]

/-- The byte kept, or else the channel's byte taken by `try_get`, is offered (20_memory.md R62, R65). -/
theorem moveIn_of_byte {s : State} {b : Byte} {c : Channel}
    (h : (s.held = some b ∧ c = s.rxChan) ∨
      (s.held = none ∧ s.rxChan = { slot := b, full := true } ∧ c = { slot := b, full := false })) :
    moveIn s = offer b { s with rxChan := c } := by
  obtain ⟨hh, rfl⟩ | ⟨hh, hc, rfl⟩ := h
  · simp only [moveIn, hh]
    rw [← hh]
  · simp [moveIn, hh, hc, Channel.tryGet]

/-- Settles O49: with a byte to move the step offers it, and an offered byte is kept or consumed. -/
theorem movingInLosesNoByte : Obligations.MovingInLosesNoByte := by
  intro s rest hp
  rw [step_of_pending hp]
  refine ⟨fun hh hf => moveIn_of_empty hh hf, fun b c hb => ?_⟩
  have hin : perform .moveIn { s with pending := rest } = offer b { s with pending := rest, rxChan := c } :=
    moveIn_of_byte (s := { s with pending := rest }) hb
  rw [hin]
  exact ⟨fun hs => offer_of_ready b hs, fun hs => offer_of_not_ready b hs⟩

end Sys2Proof.Machine

namespace Sys2Proof.Machine

/-! The command words (30_encoding.md R80 to R83): a word decodes to a command exactly when it is that command's
word. -/

/-! ### Fields -/

/-- The operand byte of TX_STEP is the one its gate encodes to, when bits 7:1 are `0` (30_encoding.md R81). -/
theorem gateArg_argGate {arg : Byte} (h : argIsGate arg = true) : gateArg (argGate arg) = arg := by
  revert arg; decide

/-- The test of a command without operand, as a number (30_encoding.md R81). -/
theorem argIsZero_iff {arg : Byte} : argIsZero arg = true ↔ arg.toNat = 0 := by
  simp [argIsZero, ← BitVec.toNat_inj]

/-- The test of TX_STEP, as a number (30_encoding.md R81). -/
theorem argIsGate_iff {arg : Byte} : argIsGate arg = true ↔ arg.toNat / 2 = 0 := by
  revert arg; decide

/-- The fields of a word as numbers (30_encoding.md R80). -/
theorem wordFields_toNat (w : Word) : (wordOp w).toNat = w.toNat / 4096 ∧
    (wordRsv w).toNat = w.toNat / 256 % 16 ∧ (wordArg w).toNat = w.toNat % 256 := by
  have hop : w.toNat / 4096 % 16 = w.toNat / 4096 := Nat.mod_eq_of_lt (by have := w.isLt; omega)
  simp [wordOp, wordRsv, wordArg, Nat.shiftRight_eq_div_pow, hop]

/-- A word whose reserved field is `0` is packed from its two other fields (30_encoding.md R80). -/
theorem packWord_wordFields {w : Word} (h : wordRsv w = 0) : packWord (wordOp w) (wordArg w) = w := by
  obtain ⟨hop, hrsv, harg⟩ := wordFields_toNat w
  have hw := w.isLt
  rw [h] at hrsv
  rw [packWord_eq_ofNat, hop, harg]
  apply BitVec.eq_of_toNat_eq
  simp at hrsv ⊢
  omega

/-- Decoding a packed word reads its two fields (30_encoding.md R80). -/
theorem decode_packWord (op : BitVec 4) (arg : Byte) : decode (packWord op arg) = decodeFields op arg := by
  obtain ⟨hop, hrsv, harg⟩ := Laws.CommandWord.packWord_fields op arg
  simp only [decode, hop, hrsv, harg, if_true]

/-! ### Decoding and encoding -/

/-- The opcode map gives each command back from its fields (30_encoding.md R81, R82). -/
theorem decodeFields_op_arg (i : Instr) : decodeFields i.op i.arg = .ok i := by
  cases i with
  | txStep g => cases g <;> rfl
  | _ => rfl

/-- The fields a command is decoded from are its own (30_encoding.md R81). -/
theorem op_arg_of_decodeFields {op : BitVec 4} {arg : Byte} {i : Instr} (h : decodeFields op arg = .ok i) :
    i.op = op ∧ i.arg = arg := by
  have hop {k : BitVec 4} (hk : op.toNat = k.toNat) : k = op := (BitVec.eq_of_toNat_eq hk).symm
  unfold decodeFields at h
  split at h
  case h_3 hk =>
    split at h <;> cases h
    exact ⟨hop hk, gateArg_argGate ‹_›⟩
  case h_2 hk | h_4 hk | h_5 hk => cases h; exact ⟨hop hk, rfl⟩
  case h_1 hk | h_6 hk | h_7 hk =>
    split at h <;> cases h
    exact ⟨hop hk, (BitVec.eq_of_toNat_eq (argIsZero_iff.1 ‹_›)).symm⟩
  case h_8 => cases h

/-- A word decodes to a command exactly when it is that command's word (30_encoding.md R80, R81). -/
theorem decode_eq_ok_iff {w : Word} {i : Instr} : decode w = .ok i ↔ encode i = w := by
  constructor
  · intro h
    unfold decode at h
    split at h
    · obtain ⟨hop, harg⟩ := op_arg_of_decodeFields h
      rw [encode, hop, harg, packWord_wordFields ‹_›]
    · cases h
  · rintro rfl
    rw [encode, decode_packWord, decodeFields_op_arg]

/-- Settles O1: the command is the one its own word decodes to. -/
theorem decodeOfEncodeIsTheCommand : Obligations.DecodeOfEncodeIsTheCommand :=
  fun _ _ => decode_eq_ok_iff.2 rfl

/-- Settles O2: only a command's own word decodes to it. -/
theorem encodeOfDecodeIsTheWord : Obligations.EncodeOfDecodeIsTheWord :=
  fun _ _ => decode_eq_ok_iff.1

/-- Settles O4: each word is the word of its command. -/
theorem tableWordsDecode : Obligations.TableWordsDecode := by
  simp only [Obligations.TableWordsDecode, decode_eq_ok_iff]
  decide

/-! ### Illegal words -/

/-- The fields that spell no command (30_encoding.md R83). -/
theorem decodeFields_error_iff {op : BitVec 4} {arg : Byte} : (∃ r, decodeFields op arg = .error r) ↔
    7 ≤ op.toNat ∨ ((op.toNat = 0 ∨ op.toNat = 5 ∨ op.toNat = 6) ∧ arg.toNat ≠ 0) ∨
      (op.toNat = 2 ∧ arg.toNat / 2 ≠ 0) := by
  unfold decodeFields
  split
  case h_1 hk | h_6 hk | h_7 hk =>
    simp only [hk, argIsZero_iff]
    split <;> simp [*]
  case h_2 hk | h_4 hk | h_5 hk => simp [hk]
  case h_3 hk =>
    simp only [hk, argIsGate_iff]
    split <;> simp [*]
  case h_8 =>
    simp only [imp_false] at *
    exact iff_of_true ⟨_, rfl⟩ (.inl (by omega))

/-- A word spells no command exactly when R83 says so (30_encoding.md R83). -/
theorem decode_error_iff {w : Word} : (∃ r, decode w = .error r) ↔ IllegalWord w := by
  obtain ⟨hop, hrsv, harg⟩ := wordFields_toNat w
  by_cases h : wordRsv w = 0
  · have hz : w.toNat / 256 % 16 = 0 := by rw [← hrsv, h]; rfl
    simp only [decode, h, if_true, decodeFields_error_iff, hop, harg, IllegalWord, hz]
    simp
  · have hz : w.toNat / 256 % 16 ≠ 0 := by rw [← hrsv]; exact fun he => h (BitVec.eq_of_toNat_eq he)
    exact iff_of_true ⟨_, if_neg h⟩ (.inr (.inl hz))

/-- Issuing a word faults ILLEGAL_CMD exactly when it decodes to no command: a command never raises that fault
(30_encoding.md R83, 60_exceptions.md R222). -/
theorem issue_illegalCmd_iff {w : Word} {s : State} :
    issue w s = .fault (.illegalCmd w) ↔ ∃ r, decode w = .error r := by
  cases hd : decode w with
  | error r => simp [issue, hd]
  | ok i =>
    rw [issue_of_decode hd]
    refine iff_of_false (fun hf => ?_) (by simp)
    obtain ⟨_, _, _, he⟩ | ⟨_, _, _, he⟩ := exec_fault hf <;> cases he

/-- Settles O3: the step issues the word. -/
theorem illegalWordsFaultIllegalCmd : Obligations.IllegalWordsFaultIllegalCmd := by
  intro s w rest hp
  rw [step_command hp, issue_illegalCmd_iff, decode_error_iff]

end Sys2Proof.Machine

namespace Sys2Proof.Machine

/-! Source lines (30_encoding.md R95, R96). -/

/-- A line in range assembles to the words of the commands it expands to (30_encoding.md R95). -/
theorem assembleLine_eq_ok {l : Line} {words : List Word} (h : l.wellFormed = true)
    (hw : (expand l).map encode = words) : assembleLine l = .ok words := by
  simp only [assembleLine, h, hw, if_true]

/-- A packed word whose operand is a number below 256 (30_encoding.md R95). -/
theorem packWord_ofNat (op : BitVec 4) {n : Nat} (hn : n < 256) :
    packWord op (BitVec.ofNat 8 n) = BitVec.ofNat 16 (op.toNat * 4096 + n) := by
  rw [packWord_eq_ofNat, BitVec.toNat_ofNat, Nat.mod_eq_of_lt hn]

theorem encode_txBegin_ofNat {n : Nat} (hn : n < 256) :
    encode (.txBegin (BitVec.ofNat 8 n)) = BitVec.ofNat 16 (0x1000 + n) := packWord_ofNat 0x1 hn

theorem encode_rxByte_ofNat {n : Nat} (hn : n < 256) :
    encode (.rxByte (BitVec.ofNat 8 n)) = BitVec.ofNat 16 (0x3000 + n) := packWord_ofNat 0x3 hn

theorem encode_rxTake_ofNat {n : Nat} (hn : n < 256) :
    encode (.rxTake (BitVec.ofNat 8 n)) = BitVec.ofNat 16 (0x4000 + n) := packWord_ofNat 0x4 hn

/-- Settles O7: each line expands to its commands, whose words are packed from `op` and operand. -/
theorem sourceLinesAssembleToTheirWords : Obligations.SourceLinesAssembleToTheirWords := by
  refine ⟨fun l hl => by simp only [assembleLine, hl, Bool.false_eq_true, if_false],
    rfl, rfl, rfl, rfl, rfl, rfl, fun n hn => ?_, fun bytes hne hb => ?_⟩
  · have hin : decide (n < 256) = true := decide_eq_true hn
    have hsteps : (List.replicate (n + 4) (.txStep true)).map encode = List.replicate (n + 4) 0x2001 :=
      List.map_replicate
    exact ⟨assembleLine_eq_ok hin (congrArg (· :: []) (encode_txBegin_ofNat hn)),
      assembleLine_eq_ok hin (congrArg (· :: []) (encode_rxByte_ofNat hn)),
      assembleLine_eq_ok hin (congrArg (· :: []) (encode_rxTake_ofNat hn)),
      assembleLine_eq_ok hin (congrArg₂ List.cons (encode_txBegin_ofNat hn) hsteps)⟩
  · refine assembleLine_eq_ok (by simpa [Line.wellFormed, hne] using hb) ?_
    rw [expand, List.map_map]
    exact List.map_congr_left fun b hm => encode_rxByte_ofNat (hb b hm)

end Sys2Proof.Machine

namespace Sys2Proof.Machine

/-! The responses (30_encoding.md R87 to R94): one word per command that answers, and the bits it may have set. -/

/-- Appending `n` bits multiplies a bound by `2 ^ n`. -/
theorem append_toNat_lt {m n k : Nat} {x : BitVec m} (y : BitVec n) (h : x.toNat < 2 ^ k) :
    (x ++ y).toNat < 2 ^ (k + n) := by
  have hy := y.isLt
  have hx : (x.toNat + 1) * 2 ^ n ≤ 2 ^ k * 2 ^ n := Nat.mul_le_mul_right _ h
  rw [BitVec.toNat_append, ← Nat.shiftLeft_add_eq_or_of_lt hy, Nat.shiftLeft_eq, Nat.pow_add]
  rw [Nat.add_mul] at hx
  omega

/-- Unnamed upper bits are `0`. -/
theorem zero_toNat_lt (m : Nat) : (0#m).toNat < 2 ^ 0 := by simp

/-- Only bit 0 (30_encoding.md R88). -/
theorem txBeginResponse_lt (ok : Bool) : (txBeginResponse ok).toNat < 2 :=
  append_toNat_lt _ (zero_toNat_lt 15)

/-- Only bits 8:0 (30_encoding.md R89). -/
theorem txStepResponse_lt (b : Option Byte) : (txStepResponse b).toNat < 512 := by
  cases b with
  | none => decide
  | some b => exact append_toNat_lt b (append_toNat_lt 1#1 (zero_toNat_lt 7))

/-- Only bits 8:0 (30_encoding.md R92). -/
theorem rxTakeResponse_lt (len : Option Byte) : (rxTakeResponse len).toNat < 512 := by
  cases len with
  | none => decide
  | some len => exact append_toNat_lt len (append_toNat_lt 1#1 (zero_toNat_lt 7))

/-- Only bits 7:0 (30_encoding.md R90). -/
theorem rxByteResponse_lt (a : Bool) (st : RxState) (d r : Bool) (c : Cause) :
    (rxByteResponse a st d r c).toNat < 256 :=
  append_toNat_lt _ (append_toNat_lt _ (append_toNat_lt _ (append_toNat_lt _ (append_toNat_lt _ (zero_toNat_lt 8)))))

/-- Only bits 10:0 (30_encoding.md R93). -/
theorem statusWord_lt (s : State) : (statusWord s).toNat < 2048 :=
  append_toNat_lt _ (append_toNat_lt _ (append_toNat_lt _ (append_toNat_lt _ (append_toNat_lt _ (zero_toNat_lt 5)))))

/-- An arm of TX_STEP returns no response of its own. -/
theorem txArm_responses {s : State} {r : State × Byte} (h : txArm s r) : r.1.responses = s.responses := by
  rw [txArm_frame h]

/-- An arm of RX_BYTE returns no response of its own. -/
theorem rxArm_responses {b : Byte} {s : State} {o : RxOut} (h : rxArm b s = some o) :
    o.state.responses = s.responses := by
  rw [(rxArm_frame h).1]

/-- Settles O41: each command's answer is `respond` with its response word, which is below its bound. -/
theorem responsesHoldOnlyNamedBits : Obligations.ResponsesHoldOnlyNamedBits := by
  intro i s t h
  cases i with
  | nop | reset => cases h; exact ⟨0, rfl, Nat.one_pos⟩
  | status => cases h; exact ⟨_, rfl, statusWord_lt s⟩
  | txBegin len =>
    obtain ⟨_, ⟨_, rfl⟩ | ⟨_, rfl⟩⟩ := execTxBegin_next h <;> exact ⟨_, rfl, txBeginResponse_lt _⟩
  | txStep g =>
    obtain ⟨_, rfl⟩ | ⟨_, rfl⟩ | ⟨_, r, hr, rfl⟩ := execTxStep_next h
    · exact ⟨_, rfl, txStepResponse_lt none⟩
    · exact ⟨_, rfl, txStepResponse_lt none⟩
    · exact ⟨_, congrArg _ (txArm_responses hr), txStepResponse_lt (some r.2)⟩
  | rxByte b =>
    obtain ⟨_, rfl⟩ | ⟨o, ho, rfl⟩ := execRxByte_next h
    · exact ⟨_, rfl, rxByteResponse_lt ..⟩
    · exact ⟨_, congrArg _ (rxArm_responses ho), rxByteResponse_lt ..⟩
  | rxTake cap =>
    obtain ⟨_, rfl⟩ | ⟨_, _, rfl⟩ := execRxTake_next h <;> exact ⟨_, rfl, rxTakeResponse_lt _⟩

end Sys2Proof.Machine

namespace Sys2Proof.Machine

/-! The parser on a whole frame (30_encoding.md R76, 42_receive.md R162 to R165): the header, the data, and the two
bytes after the data. The receive half of the session invariant says what the data phase has gathered. -/

/-- Feeding a byte to an arm of RX_BYTE goes on from the arm's state, with some response recorded. -/
theorem execAll_feed_cons {b : Byte} {s : State} {o : RxOut} (rest : List Byte) (h : rxArm b s = some o) :
    ∃ w, execAll (feed (b :: rest)) s = execAll (feed rest) (respond w o.state) :=
  ⟨_, execAll_cons (exec_rxByte_of_arm h)⟩

/-! ### The header -/

/-- A start marker opens a frame, from `WaitStart` and from `Error` (42_receive.md R151, R159). -/
theorem rxArm_stx {s : State} (hs : s.rxState = .waitStart ∨ s.rxState = .error) :
    ∃ o, rxArm stx s = some o ∧ o.state = { s with rxState := .readLength } := by
  obtain hs | hs := hs <;> simp [rxArm, hs, rxWaitStart, rxResync, rxPlain, leaveError]

/-- A length byte that fits starts the frame (42_receive.md R152). -/
theorem rxArm_length {s : State} {n : Byte} (hs : s.rxState = .readLength) (hn : ¬ s.params.maxPayload < n) :
    rxArm n s = some (rxPlain (startFrame n s)) := by
  simp only [rxArm, hs, rxReadLength, if_neg hn, startFrame]

/-- A length that fits brings the parser to the start of the data (42_receive.md R152). -/
theorem execAll_feed_length {s : State} {n : Byte} (rest : List Byte) (hs : s.rxState = .readLength)
    (hn : ¬ s.params.maxPayload < n) :
    ∃ t, execAll (feed (n :: rest)) s = execAll (feed rest) t ∧ t.RxInv ∧
      (t.rxState = .readData ∨ t.rxState = .readChecksum) ∧
      t.rxCursor = 0 ∧ t.rxLen = n ∧ t.params = s.params := by
  obtain ⟨w, hw⟩ := execAll_feed_cons rest (rxArm_length hs hn)
  exact ⟨_, hw, (startFrame_rxInv hn).congr rfl, (startFrame_rxState n s).imp And.right And.right, rfl, rfl, rfl⟩

/-- A start marker and a length that fits bring the parser to the start of the data (42_receive.md R151, R152). -/
theorem execAll_feed_header {s : State} {n : Byte} (rest : List Byte)
    (hs : s.rxState = .waitStart ∨ s.rxState = .error) (hn : ¬ s.params.maxPayload < n) :
    ∃ t, execAll (feed (stx :: n :: rest)) s = execAll (feed rest) t ∧ t.RxInv ∧
      (t.rxState = .readData ∨ t.rxState = .readChecksum) ∧
      t.rxCursor = 0 ∧ t.rxLen = n ∧ t.params = s.params := by
  obtain ⟨o, ho, hst⟩ := rxArm_stx hs
  obtain ⟨w, hw⟩ := execAll_feed_cons (n :: rest) ho
  rw [hw, hst]
  exact execAll_feed_length (s := respond w { s with rxState := .readLength }) rest rfl hn

/-! ### The data -/

/-- As many data bytes as are missing bring the parser to the checksum byte, and RXBUF gains them
(42_receive.md R153). -/
theorem execAll_feed_data {data : List Byte} (rest : List Byte) {s : State} (h : s.RxInv)
    (hs : s.rxState = .readData ∨ s.rxState = .readChecksum)
    (hd : s.rxCursor.toNat + data.length = s.rxLen.toNat) :
    ∃ t, execAll (feed (data ++ rest)) s = execAll (feed rest) t ∧ t.RxInv ∧ t.rxState = .readChecksum ∧
      t.rxLen = s.rxLen ∧ t.params = s.params ∧
      rxBytes t t.rxLen.toNat = rxBytes s s.rxCursor.toNat ++ data := by
  induction data generalizing s with
  | nil =>
    have hcur : s.rxCursor = s.rxLen := BitVec.eq_of_toNat_eq hd
    have hck : s.rxState = .readChecksum := hs.resolve_left fun hr => by
      have := h.data hr
      simp [hcur] at this
    exact ⟨s, rfl, h, hck, rfl, rfl, by simp [hcur]⟩
  | cons b data ih =>
    rw [List.length_cons] at hd
    have hlt : s.rxCursor < s.rxLen := BitVec.lt_def.2 (by omega)
    have hr : s.rxState = .readData := hs.resolve_right fun hck => by
      simp [h.tail (.inl hck)] at hlt
    have hm : s.rxCursor < s.params.maxPayload :=
      BitVec.lt_def.2 (Nat.lt_of_lt_of_le hlt (h.fits (by simp [hr, RxState.receiving])))
    obtain ⟨w, hw⟩ := execAll_feed_cons (data ++ rest) (rxArm_of_stores b ⟨hr, hlt, hm⟩)
    have hcur : (storeByte b s).rxCursor.toNat = s.rxCursor.toNat + 1 := succ_toNat_of_byte_lt hlt
    have hlen : (storeByte b s).rxLen = s.rxLen := rfl
    obtain ⟨t, ht, hinv, hck, htl, htp, hbytes⟩ := ih (s := respond w (storeByte b s))
      ((storeByte_rxInv h hr hlt hm).congr rfl)
      ((storeByte_rxState b s).symm.imp And.right And.right)
      (by simp only [respond_rxCursor, respond_rxLen, hcur, hlen]; omega)
    refine ⟨t, hw.trans ht, hinv, hck, htl, htp, ?_⟩
    rw [hbytes, respond_rxCursor, rxBytes_respond, hcur, rxBytes_storeByte b hm, List.append_assoc,
      List.singleton_append]

/-! ### The checksum byte and the end marker -/

/-- The checksum byte is claimed, or under EARLY found wrong (42_receive.md R154, R155). -/
theorem rxArm_checksum {s : State} (c : Byte) (hs : s.rxState = .readChecksum) : ∃ o, rxArm c s = some o ∧
    (((s.params.topology = .early → c = chkFinal s.rxAcc) ∧
        o.state = { s with rxClaimed := c, rxState := .waitEnd }) ∨
      (c ≠ chkFinal s.rxAcc ∧ o.state.rxState = .error)) := by
  cases ht : s.params.topology with
  | deferred => simp [rxArm, hs, rxReadChecksum, ht, rxReadChecksumDeferred, rxPlain]
  | early =>
    by_cases hc : c = chkFinal s.rxAcc <;>
      simp [rxArm, hs, rxReadChecksum, ht, rxReadChecksumEarly, hc, rxPlain, rxFail]

/-- The byte in `WaitEnd` completes the frame when it is the end marker and the checksum, which DEFERRED tests here,
is right; else it is an error (42_receive.md R156, R157). -/
theorem rxArm_end {s : State} (x : Byte) (hs : s.rxState = .waitEnd) : ∃ o, rxArm x s = some o ∧
    ((x = etx ∧ (s.params.topology = .deferred → s.rxClaimed = chkFinal s.rxAcc)) ∧
        o.state = { s with rxState := .ready } ∨
      ¬ (x = etx ∧ (s.params.topology = .deferred → s.rxClaimed = chkFinal s.rxAcc)) ∧
        o.state.rxState = .error) := by
  by_cases hx : x = etx <;> cases ht : s.params.topology
  case pos.deferred =>
    by_cases hk : s.rxClaimed = chkFinal s.rxAcc <;>
      simp [rxArm, hs, rxWaitEnd, ht, rxWaitEndDeferred, hx, hk, rxPlain, rxFail]
  all_goals simp [rxArm, hs, rxWaitEnd, ht, rxWaitEndDeferred, rxWaitEndEarly, hx, rxPlain, rxFail]

/-- The byte in `WaitEnd` leads to `Ready` exactly when it completes the frame, which stays as gathered
(42_receive.md R156, R157). -/
theorem execAll_feed_end {s : State} (x : Byte) (hs : s.rxState = .waitEnd) :
    ∃ t, execAll (feed [x]) s = .next t ∧
      (t.rxState = .ready ↔ x = etx ∧ (s.params.topology = .deferred → s.rxClaimed = chkFinal s.rxAcc)) ∧
      (t.rxState = .ready → t.rxLen = s.rxLen ∧ ∀ n, rxBytes t n = rxBytes s n) := by
  obtain ⟨o, ho, ⟨hgood, hst⟩ | ⟨hbad, herr⟩⟩ := rxArm_end x hs <;>
    obtain ⟨w, hw⟩ := execAll_feed_cons [] ho
  · rw [hst] at hw
    exact ⟨_, hw, iff_of_true rfl hgood, fun _ => ⟨rfl, fun _ => rfl⟩⟩
  · have hne : (respond w o.state).rxState ≠ .ready := by simp [herr]
    exact ⟨_, hw, iff_of_false hne hbad, fun h => absurd h hne⟩

/-- No byte leads from `Error` to `Ready` (60_exceptions.md R218). -/
theorem execAll_feed_error {s : State} (x : Byte) (hs : s.rxState = .error) :
    ∃ t, execAll (feed [x]) s = .next t ∧ t.rxState ≠ .ready := by
  obtain ⟨o, ho, hne⟩ : ∃ o, rxArm x s = some o ∧ o.state.rxState ≠ .ready := by
    by_cases hx : x = stx <;> simp [rxArm, hs, rxResync, hx, rxDiscard]
  obtain ⟨w, hw⟩ := execAll_feed_cons [] ho
  exact ⟨_, hw, hne⟩

/-- The checksum byte and the byte after it complete the frame exactly when they are the checksum and the end
marker, whatever the topology (42_receive.md R162, R163). -/
theorem execAll_feed_tail {s : State} (c x : Byte) (hs : s.rxState = .readChecksum) :
    ∃ t, execAll (feed [c, x]) s = .next t ∧ (t.rxState = .ready ↔ c = chkFinal s.rxAcc ∧ x = etx) ∧
      (t.rxState = .ready → t.rxLen = s.rxLen ∧ ∀ n, rxBytes t n = rxBytes s n) := by
  obtain ⟨o, ho, ⟨hearly, hst⟩ | ⟨hc, herr⟩⟩ := rxArm_checksum c hs <;>
    obtain ⟨w, hw⟩ := execAll_feed_cons [x] ho <;> rw [hw]
  · rw [hst]
    obtain ⟨t, ht, hready, hframe⟩ :=
      execAll_feed_end (s := respond w { s with rxClaimed := c, rxState := .waitEnd }) x rfl
    refine ⟨t, ht, hready.trans ?_, hframe⟩
    change x = etx ∧ (s.params.topology = .deferred → c = chkFinal s.rxAcc) ↔ _
    cases htop : s.params.topology with
    | deferred => simp [and_comm]
    | early => simp [hearly htop]
  · obtain ⟨t, ht, hne⟩ := execAll_feed_error (s := respond w o.state) x herr
    exact ⟨t, ht, iff_of_false hne fun h => hc h.1, fun h => absurd h hne⟩

/-! ### The whole frame -/

/-- What makes a start marker, a length that fits and as many bytes as it announces a valid frame
(30_encoding.md R76). -/
theorem validFrame_iff {p : Params} {n : Byte} {data : List Byte} (c x : Byte) (hn : n.toNat ≤ p.maxPayload.toNat)
    (hd : data.length = n.toNat) :
    validFrame p (stx :: n :: (data ++ [c, x])) = true ↔ c = checksum p.chk n data ∧ x = etx := by
  rw [← hd] at hn
  simp [validFrame, hn, ← hd]

/-- A list of `n + 2` elements is `n` of them and two more. -/
theorem exists_data_tail {n : Nat} {body : List Byte} (h : body.length = n + 2) :
    ∃ data c x, body = data ++ [c, x] ∧ data.length = n := by
  have htail : (body.drop n).length = 2 := by simp [h]
  obtain ⟨c, x, hcx⟩ := List.length_eq_two.1 htail
  exact ⟨body.take n, c, x, by rw [← hcx, List.take_append_drop], by simp [h]⟩

/-- Settles O42: the header starts the frame, the data phase gathers it, and the last two bytes decide; the receive
half of the invariant says that the accumulator is then the checksum of the data. -/
theorem parserAcceptsExactlyTheValidFrames : Obligations.ParserAcceptsExactlyTheValidFrames := by
  intro s n body hs hn hlen
  obtain ⟨data, c, x, rfl, hd⟩ := exists_data_tail hlen
  obtain ⟨t, ht, hinv, hst, hcur, hl, hp⟩ := execAll_feed_header (data ++ [c, x]) hs (Nat.not_lt.2 hn)
  obtain ⟨u, hu, hinv', hst', hl', hp', hbytes⟩ := execAll_feed_data (data := data) [c, x] hinv hst
    (by simp [hcur, hl, hd])
  obtain ⟨v, hv, hready, hframe⟩ := execAll_feed_tail c x hst'
  have hrecv : u.rxState.receiving = true := by simp [hst', RxState.receiving]
  have hdata : rxBytes u n.toNat = data := by
    rw [hl', hl] at hbytes
    simpa [hcur, rxBytes] using hbytes
  have hsum : u.rxAcc = chkAcc s.params.chk n data := by
    rw [hinv'.sum hrecv, hinv'.tail (.inl hst'), hl', hl, hp', hp, hdata]
  refine ⟨v, ht.trans (hu.trans hv), ?_, fun h => ?_⟩
  · rw [hready, hsum]
    exact (validFrame_iff c x hn hd).symm
  · obtain ⟨hvl, hvb⟩ := hframe h
    exact ⟨by rw [hvl, hl', hl], by rw [hvb, hdata, ← hd, List.take_left]⟩

end Sys2Proof.Machine

namespace Sys2Proof.Machine

/-! The checksum calculator (40_checksum.md R101 to R106). Under XOR the accumulator is a byte widened to 16 bits; under
ADD it is the sum of the length and the bytes, as a number modulo 65536. -/

/-- A byte widened to an accumulator is the same number (40_checksum.md R101 to R104). -/
theorem setWidth_toNat (b : Byte) : (b.setWidth 16 : Word).toNat = b.toNat :=
  BitVec.toNat_setWidth_of_le (by decide)

/-! ### The XOR variant -/

/-- The XOR seed as a number (40_checksum.md R101). -/
theorem chkSeed_xor_toNat (len : Byte) : (chkSeed .xor len).toNat = 0x02 ^^^ len.toNat := by
  rw [chkSeed, setWidth_toNat, BitVec.toNat_xor]
  rfl

/-- An XOR fold as a number (40_checksum.md R102). -/
theorem chkFold_xor_toNat (acc : Word) (b : Byte) : (chkFold .xor acc b).toNat = acc.toNat ^^^ b.toNat := by
  rw [chkFold, BitVec.toNat_xor, setWidth_toNat]

/-- An XOR fold of a widened byte is the widened XOR (40_checksum.md R102). -/
theorem chkFold_xor_setWidth (a b : Byte) : chkFold .xor (a.setWidth 16) b = (a ^^^ b).setWidth 16 :=
  BitVec.setWidth_xor.symm

/-- The XOR accumulator is the widened XOR of the seed byte and the data (40_checksum.md R101, R102). -/
theorem chkAcc_xor (len : Byte) (data : List Byte) :
    chkAcc .xor len data = (data.foldl (· ^^^ ·) (stx ^^^ len)).setWidth 16 :=
  List.foldl_hom (BitVec.setWidth 16) chkFold_xor_setWidth

/-- The final byte takes a widened byte back (40_checksum.md R105). -/
theorem chkFinal_setWidth (b : Byte) : chkFinal (b.setWidth 16) = b := by
  apply BitVec.eq_of_toNat_eq
  rw [chkFinal_toNat, setWidth_toNat, Nat.mod_eq_of_lt b.isLt]

/-! ### The ADD variant -/

/-- The ADD seed as a number (40_checksum.md R103). -/
theorem chkSeed_add_toNat (len : Byte) : (chkSeed .add len).toNat = len.toNat := setWidth_toNat len

/-- An ADD fold as a number (40_checksum.md R104). -/
theorem chkFold_add_toNat (acc : Word) (b : Byte) :
    (chkFold .add acc b).toNat = (acc.toNat + b.toNat) % 65536 := by
  rw [chkFold, BitVec.toNat_add, setWidth_toNat]

/-- The ADD accumulator as a number (40_checksum.md R103, R104). -/
theorem chkAcc_add_toNat (len : Byte) (data : List Byte) :
    (chkAcc .add len data).toNat = (len.toNat + (data.map BitVec.toNat).sum) % 65536 := by
  induction data using List.reverseRecOn with
  | nil =>
    have hlen : len.toNat < 65536 := len.isLt.trans (by decide)
    rw [chkAcc_nil, chkSeed_add_toNat, List.map_nil, List.sum_nil, Nat.add_zero, Nat.mod_eq_of_lt hlen]
  | append_singleton data b ih =>
    rw [chkAcc_append, chkFold_add_toNat, ih, Nat.mod_add_mod]
    simp [Nat.add_assoc]

/-- What keeps an ADD accumulator of at most 255 bytes below 65536 (40_checksum.md R104). -/
theorem sum_toNat_le (data : List Byte) : (data.map BitVec.toNat).sum ≤ 255 * data.length := by
  have hbyte : ∀ k ∈ data.map BitVec.toNat, k ≤ 255 :=
    List.forall_mem_map.2 fun b _ => Nat.le_of_lt_succ b.isLt
  simpa [Nat.mul_comm] using List.sum_le_card_nsmul _ 255 hbyte

/-! ### The order of the bytes -/

/-- Two bytes may be folded in either order (40_checksum.md R106). -/
theorem chkFold_right_comm (v : ChkVariant) (acc : Word) (a b : Byte) :
    chkFold v (chkFold v acc a) b = chkFold v (chkFold v acc b) a := by
  cases v with
  | xor =>
    simp only [chkFold]
    ac_rfl
  | add => exact add_right_comm ..

/-- A permutation of the data bytes has the same checksum (40_checksum.md R106). -/
theorem checksum_perm (v : ChkVariant) (len : Byte) {d e : List Byte} (h : d.Perm e) :
    checksum v len e = checksum v len d :=
  congrArg chkFinal (h.symm.foldl_eq' (fun a _ b _ acc => chkFold_right_comm v acc a b) _)

/-- Settles O10: the XOR accumulator is a widened byte, and a sum of 256 bytes stays below 65536. -/
theorem checksumAccumulatorValues : Obligations.ChecksumAccumulatorValues := by
  refine ⟨fun acc len b => ⟨chkSeed_xor_toNat len, chkFold_xor_toNat acc b, chkSeed_add_toNat len,
    chkFold_add_toNat acc b, chkFinal_toNat acc⟩, fun len data => ?_, fun len data hlen => ?_⟩
  · rw [chkAcc_xor, setWidth_toNat]
    exact BitVec.isLt _
  · have hsum := sum_toNat_le data
    have hseed : len.toNat < 256 := len.isLt
    rw [chkAcc_add_toNat, Nat.mod_eq_of_lt (by omega)]

/-- Settles O11: the closed form of each accumulator, cut to its low byte, and the exchange of two folds. -/
theorem checksumClosedForms : Obligations.ChecksumClosedForms := by
  refine fun n d _ => ⟨?_, ?_, fun v e h => checksum_perm v n h⟩
  · rw [checksum, chkAcc_xor, chkFinal_setWidth, stx]
  · rw [checksum, chkFinal_toNat, chkAcc_add_toNat, Nat.mod_mod_of_dvd _ (by decide)]

end Sys2Proof.Machine

namespace Sys2Proof.Machine

/-! The transmit commands one by one (41_transmit.md R120 to R128). -/

/-- No send is active in `Idle` and `Done` only (43_collect_control.md R191). -/
theorem TxState.busy_eq_false_iff {st : TxState} : st.busy = false ↔ st = .idle ∨ st = .done := by
  cases st <;> simp [TxState.busy]

theorem TxState.busy_eq_true_iff {st : TxState} : st.busy = true ↔ st ≠ .idle ∧ st ≠ .done := by
  cases st <;> simp [TxState.busy]

/-! ### TX_BEGIN -/

/-- A packed word with its operand laid over the word of operand 0 (30_encoding.md R80). -/
theorem packWord_eq_or (op : BitVec 4) (arg : Byte) : packWord op arg = packWord op 0 ||| arg.setWidth 16 := by
  apply BitVec.eq_of_getLsbD_eq
  intro i hi
  simp only [packWord, BitVec.getLsbD_or, BitVec.getLsbD_append, BitVec.getLsbD_setWidth, hi]
  by_cases h : i < 8
  · simp [h]
  · simp [h, BitVec.getLsbD_of_ge arg i (Nat.not_lt.1 h)]

/-- The word of TX_BEGIN as a number (30_encoding.md R80). -/
theorem encode_txBegin (len : Byte) : encode (.txBegin len) = BitVec.ofNat 16 (0x1000 + len.toNat) :=
  packWord_eq_ofNat 0x1 len

/-- Above the ceiling TX_BEGIN faults whatever the state (41_transmit.md R120). -/
theorem exec_txBegin_above {len : Byte} {s : State} (h : s.params.maxPayload < len) :
    exec (.txBegin len) s = .fault (.precondition (encode (.txBegin len))) :=
  if_pos h

/-- While a send is active TX_BEGIN is refused (41_transmit.md R120). -/
theorem exec_txBegin_busy {len : Byte} {s : State} (h : ¬ s.params.maxPayload < len) (hb : s.txState.busy = true) :
    exec (.txBegin len) s = .next (respond (txBeginResponse false) s) :=
  (if_neg h).trans (if_pos hb)

/-- With no send active TX_BEGIN starts one (41_transmit.md R120). -/
theorem exec_txBegin_free {len : Byte} {s : State} (h : ¬ s.params.maxPayload < len) (hb : s.txState.busy = false) :
    exec (.txBegin len) s = .next (respond (txBeginResponse true) (beginSend len s)) :=
  (if_neg h).trans (if_neg (by simp [hb]))

/-- Settles O12: the ceiling is tested first, then whether a send is active, which is in neither `Idle` nor `Done`. -/
theorem txBeginStartsRefusesOrFaults : Obligations.TxBeginStartsRefusesOrFaults := by
  refine fun len s => ⟨packWord_eq_or 0x1 len, fun hl => ?_, fun hl hs => ?_, fun hl hi hd => ?_⟩
  · rw [exec_txBegin_above hl, encode_txBegin]
  · exact exec_txBegin_free (Nat.not_lt.2 hl) (TxState.busy_eq_false_iff.2 hs)
  · exact exec_txBegin_busy (Nat.not_lt.2 hl) (TxState.busy_eq_true_iff.2 ⟨hi, hd⟩)

/-! ### TX_STEP -/

/-- Settles O13: neither `Idle` nor `Done` tests the gate. -/
theorem txStepInIdleAndDoneProducesNothing : Obligations.TxStepInIdleAndDoneProducesNothing :=
  fun _ _ => ⟨fun hs => execTxStep_waits (.inl hs), execTxStep_done⟩

/-- Settles O14: in `Idle` nothing is produced anyway, and every busy state tests the gate first. -/
theorem txStepWithClosedGateChangesNothing : Obligations.TxStepWithClosedGateChangesNothing := by
  intro s hd
  refine execTxStep_waits (or_iff_not_imp_left.2 fun hi => ⟨?_, rfl⟩)
  exact TxState.busy_eq_true_iff.2 ⟨hi, hd⟩

/-- With the gate open TX_STEP answers `0x0100 | byte` with the byte of the arm its state selects
(41_transmit.md R121). -/
theorem exec_txStep_of_txArm {s : State} {r : State × Byte} (h : txArm s r) :
    exec (.txStep true) s = .next (respond (0x0100 ||| r.2.setWidth 16) r.1) := by
  rw [← txStepResponse_some]
  exact execTxStep_of_txArm h

/-- TX_STEP in `SendStart` (41_transmit.md R123). -/
theorem exec_txStep_sendStart {s : State} (hs : s.txState = .sendStart) :
    exec (.txStep true) s = .next (respond 0x0102 (sendStart s).1) := by
  rw [← txStepResponse_stx]
  exact execTxStep_of_txArm (.inl ⟨hs, rfl⟩)

/-- TX_STEP in `SendEnd` (41_transmit.md R127). -/
theorem exec_txStep_sendEnd {s : State} (hs : s.txState = .sendEnd) :
    exec (.txStep true) s = .next (respond 0x0103 (sendEnd s).1) := by
  rw [← txStepResponse_etx]
  exact execTxStep_of_txArm (.inr (.inr (.inr (.inr ⟨hs, rfl⟩))))

/-- Settles O15: the marker arms send STX and ETX. -/
theorem txStepSendsTheMarkers : Obligations.TxStepSendsTheMarkers :=
  fun _ => ⟨exec_txStep_sendStart, exec_txStep_sendEnd⟩

/-- TX_STEP in `SendLength` (41_transmit.md R124). -/
theorem exec_txStep_sendLength {s : State} (hs : s.txState = .sendLength) :
    exec (.txStep true) s = .next (respond (0x0100 ||| s.txLen.setWidth 16) (sendLength s).1) :=
  exec_txStep_of_txArm (.inr (.inl ⟨hs, rfl⟩))

/-- TX_STEP in `SendChecksum` (41_transmit.md R126). -/
theorem exec_txStep_sendChecksum {s : State} (hs : s.txState = .sendChecksum) :
    exec (.txStep true) s =
      .next (respond (0x0100 ||| (chkFinal s.txAcc).setWidth 16) (sendChecksum s).1) :=
  exec_txStep_of_txArm (.inr (.inr (.inr (.inl ⟨hs, rfl⟩))))

/-- `SendLength` sends the length, and goes to the data phase unless there is no data (41_transmit.md R124). -/
theorem sendLength_eq (s : State) :
    sendLength s = ({ s with txState := if s.txLen = 0 then .sendChecksum else .sendData }, s.txLen) := by
  by_cases hl : s.txLen = 0
  · simp [sendLength, hl]
  · have hpos : 0 < s.txLen := (BitVec.pos_iff_ne_zero _).2 hl
    simp only [sendLength, hl, hpos, if_true, if_false]

/-- Settles O16: an empty frame goes from the length to the checksum, whose byte is then the low byte of the seed. -/
theorem txStepSendsTheLength : Obligations.TxStepSendsTheLength := by
  refine fun s hs => ⟨?_, fun hl hacc => ?_⟩
  · rw [exec_txStep_sendLength hs, sendLength_eq]
    rfl
  · have hst : (sendLength s).1.txState = .sendChecksum := by rw [sendLength_eq]; exact if_pos hl
    refine ⟨_, (execAll_cons (exec_txStep_sendLength hs)).trans
      (execAll_cons (exec_txStep_sendChecksum hst)), ?_⟩
    change some (0x0100 ||| (chkFinal s.txAcc).setWidth 16) = _
    rw [hacc]
    cases s.params.chk <;> decide

/-- TX_STEP in `SendData` with the cursor at or above the length (41_transmit.md R125). -/
theorem exec_txStep_pastLength {s : State} (hs : s.txState = .sendData) (hc : ¬ s.txCursor < s.txLen) :
    exec (.txStep true) s = .fault (.invariant 0x2001) := by
  simp only [exec, execTxStep, hs, hc, if_true, if_false]
  rfl

/-- `SendData` leaves the data phase when the cursor, as a number, reaches the length (41_transmit.md R125). -/
theorem sendData_eq {s : State} (h : s.txCursor < s.txLen) :
    sendData s = ({ s with
      txAcc := chkFold s.params.chk s.txAcc (readTx s s.txCursor.toNat),
      txCursor := BitVec.ofNat 8 (s.txCursor.toNat + 1),
      txState := if s.txCursor.toNat + 1 = s.txLen.toNat then .sendChecksum else .sendData },
      readTx s s.txCursor.toNat) := by
  have hcur : BitVec.ofNat 8 (s.txCursor.toNat + 1) = s.txCursor + 1 := by
    rw [← succ_toNat_of_byte_lt h, BitVec.ofNat_toNat, BitVec.setWidth_eq]
  have hend : s.txCursor.toNat + 1 = s.txLen.toNat ↔ s.txCursor + 1 = s.txLen := by
    rw [← succ_toNat_of_byte_lt h, BitVec.toNat_inj]
  simp only [sendData, hcur, hend]

/-- Settles O17: the guard compares the cursor with the length as numbers, and below it the data arm runs. -/
theorem txStepSendsADataByte : Obligations.TxStepSendsADataByte := by
  refine fun s hs => ⟨fun hc => exec_txStep_pastLength hs (Nat.not_lt.2 hc), fun hc => ?_⟩
  have hlt : s.txCursor < s.txLen := hc
  rw [exec_txStep_of_txArm (.inr (.inr (.inl ⟨hs, hlt, rfl⟩))), sendData_eq hlt]
  rfl

/-- Settles O18: the checksum byte is the accumulator's low byte. -/
theorem txStepSendsTheChecksum : Obligations.TxStepSendsTheChecksum := by
  intro s hs
  have hbyte : (chkFinal s.txAcc).setWidth 16 = BitVec.ofNat 16 (s.txAcc.toNat % 256) := by
    apply BitVec.eq_of_toNat_eq
    rw [setWidth_toNat, chkFinal_toNat, BitVec.toNat_ofNat]
    omega
  rw [exec_txStep_sendChecksum hs, hbyte]
  rfl

end Sys2Proof.Machine

namespace Sys2Proof.Machine

/-! The framer as a Mealy machine (41_transmit.md R129). -/

/-- What the framer puts out with the gate open, as a function of the four values of 41_transmit.md R129: the state, the
length, the accumulator and the payload byte at the cursor. -/
def framerByte (st : TxState) (len : Byte) (acc : Word) (cell : Byte) : Option Byte :=
  match st with
  | .idle => none
  | .sendStart => some stx
  | .sendLength => some len
  | .sendData => some cell
  | .sendChecksum => some (chkFinal acc)
  | .sendEnd => some etx
  | .done => none

/-- Every arm of TX_STEP sends the framer's byte (41_transmit.md R123 to R127). -/
theorem framerByte_of_txArm {s : State} {r : State × Byte} (h : txArm s r) :
    framerByte s.txState s.txLen s.txAcc (readTx s s.txCursor.toNat) = some r.2 := by
  rcases h with ⟨hs, rfl⟩ | ⟨hs, rfl⟩ | ⟨hs, _, rfl⟩ | ⟨hs, rfl⟩ | ⟨hs, rfl⟩ <;> rw [hs] <;> rfl

/-- TX_STEP answers with the framer's byte when the gate is open, and with none when it is closed
(41_transmit.md R121, R129). -/
theorem exec_txStep_head {g : Bool} {s t : State} (h : exec (.txStep g) s = .next t) :
    t.responses.head? = some (txStepResponse
      (if g then framerByte s.txState s.txLen s.txAcc (readTx s s.txCursor.toNat) else none)) := by
  obtain ⟨hs | ⟨_, rfl⟩, rfl⟩ | ⟨hs, rfl⟩ | ⟨rfl, r, hr, rfl⟩ := execTxStep_next h
  · rw [hs, framerByte, ite_self]
    rfl
  · rfl
  · rw [hs, framerByte, ite_self]
    rfl
  · rw [framerByte_of_txArm hr]
    rfl

/-- Settles O19: the response is a function of the four values, and each arm leads to the next state of the list. -/
theorem framerIsMealyAndSkipsNoState : Obligations.FramerIsMealyAndSkipsNoState := by
  refine ⟨fun g s s' t t' hst hlen hacc hcell ht ht' => ?_, fun g s t ht => ?_⟩
  · rw [exec_txStep_head ht, exec_txStep_head ht', hst, hlen, hacc, hcell]
  · obtain ⟨_, rfl⟩ | ⟨hs, rfl⟩ | ⟨_, _, ⟨hs, rfl⟩ | ⟨hs, rfl⟩ | ⟨hs, _, rfl⟩ | ⟨hs, rfl⟩ | ⟨hs, rfl⟩, rfl⟩ :=
      execTxStep_next ht
    · exact .inl rfl
    · simp [hs]
    · simp [hs, sendStart]
    · by_cases hl : s.txLen = 0#8 <;> simp [hs, sendLength_eq, hl]
    · obtain ⟨_, hst⟩ | ⟨_, hst⟩ := sendData_txState s <;> simp [hs, hst]
    · simp [hs, sendChecksum]
    · simp [hs, sendEnd]

end Sys2Proof.Machine

namespace Sys2Proof.Machine

/-! A whole send (41_transmit.md R130). What a send has still to put out is a function of the state; a TX_STEP with the
gate open takes its first byte off, and one with the gate closed leaves it. -/

@[simp] theorem length_txBytes (s : State) (n : Nat) : (txBytes s n).length = n := by simp [txBytes]

theorem getElem_txBytes {s : State} {n k : Nat} (h : k < (txBytes s n).length) : (txBytes s n)[k] = readTx s k := by
  simp [txBytes]

/-- The payload bytes from the cursor on. -/
def State.dataLeft (s : State) : List Byte := (txBytes s s.txLen.toNat).drop s.txCursor.toNat

/-- The bytes a send puts out from the data phase on: the payload that is left, the checksum it leads to, and ETX. -/
def State.bodyLeft (s : State) : List Byte :=
  s.dataLeft ++ [chkFinal (s.dataLeft.foldl (chkFold s.params.chk) s.txAcc), etx]

/-- The bytes a send has still to put out, by `tx_state`. -/
def State.frameLeft (s : State) : List Byte :=
  match s.txState with
  | .idle => []
  | .sendStart => stx :: s.txLen :: s.bodyLeft
  | .sendLength => s.txLen :: s.bodyLeft
  | .sendData => s.bodyLeft
  | .sendChecksum => [chkFinal s.txAcc, etx]
  | .sendEnd => [etx]
  | .done => []

@[simp] theorem frameLeft_respond (w : Word) (s : State) : (respond w s).frameLeft = s.frameLeft := rfl

/-- Something is left exactly while a send is active. -/
theorem frameLeft_ne_nil_iff {s : State} : s.frameLeft ≠ [] ↔ s.txState.busy = true := by
  cases hs : s.txState <;> simp [State.frameLeft, hs, TxState.busy, State.bodyLeft]

/-- With the cursor at the length only the checksum and ETX are left. -/
theorem bodyLeft_of_end {s : State} (h : s.txCursor = s.txLen) : s.bodyLeft = [chkFinal s.txAcc, etx] := by
  have hd : s.dataLeft = [] := by simp [State.dataLeft, h]
  rw [State.bodyLeft, hd]
  rfl

/-- `SendData` takes the first byte off the payload that is left, and folds it (41_transmit.md R125). -/
theorem bodyLeft_sendData {s : State} (h : s.txCursor < s.txLen) :
    s.bodyLeft = readTx s s.txCursor.toNat :: (sendData s).1.bodyLeft := by
  have hcur : (sendData s).1.txCursor.toNat = s.txCursor.toNat + 1 := succ_toNat_of_byte_lt h
  have hdata : s.dataLeft = readTx s s.txCursor.toNat :: (sendData s).1.dataLeft := by
    have hlt : s.txCursor.toNat < (txBytes s s.txLen.toNat).length := by rwa [length_txBytes]
    rw [State.dataLeft, List.drop_eq_getElem_cons hlt, getElem_txBytes, State.dataLeft, hcur]
    rfl
  rw [State.bodyLeft, hdata]
  rfl

/-- After the length byte the rest is left, whether or not there is data (41_transmit.md R124). -/
theorem frameLeft_sendLength {s : State} (h : s.txCursor = 0) : (sendLength s).1.frameLeft = s.bodyLeft := by
  rw [sendLength_eq]
  by_cases hl : s.txLen = 0
  · rw [bodyLeft_of_end (h.trans hl.symm)]
    simp [State.frameLeft, hl]
  · simp only [State.frameLeft, hl, if_false]
    rfl

/-- After a data byte the rest is left, whether or not it was the last (41_transmit.md R125). -/
theorem frameLeft_sendData (s : State) : (sendData s).1.frameLeft = (sendData s).1.bodyLeft := by
  obtain ⟨hend, hst⟩ | ⟨_, hst⟩ := sendData_txState s
  · rw [bodyLeft_of_end hend, State.frameLeft, hst]
  · rw [State.frameLeft, hst]

/-- While something is left, an arm of TX_STEP runs and takes its first byte off (41_transmit.md R123 to R127). -/
theorem exists_txArm_frameLeft {s : State} (h : s.TxInv) (hne : s.frameLeft ≠ []) :
    ∃ r, txArm s r ∧ s.frameLeft = r.2 :: r.1.frameLeft := by
  have hbusy := frameLeft_ne_nil_iff.1 hne
  cases hs : s.txState with
  | idle => simp [hs, TxState.busy] at hbusy
  | done => simp [hs, TxState.busy] at hbusy
  | sendStart => exact ⟨_, .inl ⟨hs, rfl⟩, by rw [State.frameLeft, hs]; rfl⟩
  | sendLength =>
    refine ⟨_, .inr (.inl ⟨hs, rfl⟩), ?_⟩
    rw [frameLeft_sendLength (h.head (.inr hs)), State.frameLeft, hs]
    rfl
  | sendData =>
    have hlt := h.data hs
    refine ⟨_, .inr (.inr (.inl ⟨hs, hlt, rfl⟩)), ?_⟩
    rw [frameLeft_sendData, State.frameLeft, hs]
    exact bodyLeft_sendData hlt
  | sendChecksum => exact ⟨_, .inr (.inr (.inr (.inl ⟨hs, rfl⟩))), by rw [State.frameLeft, hs]; rfl⟩
  | sendEnd => exact ⟨_, .inr (.inr (.inr (.inr ⟨hs, rfl⟩))), by rw [State.frameLeft, hs]; rfl⟩

/-- No arm of TX_STEP leads to `Idle` (41_transmit.md R129). -/
theorem txArm_ne_idle {s : State} {r : State × Byte} (h : txArm s r) : r.1.txState ≠ .idle := by
  rcases h with ⟨_, rfl⟩ | ⟨_, rfl⟩ | ⟨_, _, rfl⟩ | ⟨_, rfl⟩ | ⟨_, rfl⟩
  · simp [sendStart]
  · obtain ⟨_, hst⟩ | ⟨_, hst⟩ := sendLength_txState s <;> simp [hst]
  · obtain ⟨_, hst⟩ | ⟨_, hst⟩ := sendData_txState s <;> simp [hst]
  · simp [sendChecksum]
  · simp [sendEnd]

/-- A response adds the byte it carries to what was produced (30_encoding.md R89). -/
theorem produced_respond (w : Word) (s : State) : produced (respond w s) = produced s ++ (txProduced w).toList := by
  have hlast : [w].filterMap txProduced = (txProduced w).toList := by cases h : txProduced w <;> simp [h]
  rw [produced, respond_responses, List.reverse_cons, List.filterMap_append, hlast, produced]

/-- While something is left, a TX_STEP with the gate open produces its first byte (41_transmit.md R121). -/
theorem exec_txStep_open {s : State} (h : s.TxInv) (hne : s.frameLeft ≠ []) :
    ∃ t b, exec (.txStep true) s = .next t ∧ t.TxInv ∧ t.txState ≠ .idle ∧ s.frameLeft = b :: t.frameLeft ∧
      produced t = produced s ++ [b] := by
  obtain ⟨r, hr, hleft⟩ := exists_txArm_frameLeft h hne
  refine ⟨_, r.2, execTxStep_of_txArm hr, (txArm_txInv h hr).congr rfl, txArm_ne_idle hr, hleft, ?_⟩
  rw [produced_respond, txProduced_some, produced, txArm_responses hr]
  rfl

/-- TX_STEPs with the gate open as often as bytes are left, the last time at the end, put out what is left, however
often the gate is closed between (41_transmit.md R130). -/
theorem execAll_txSteps {gates : List Bool} {s : State} (h : s.TxInv)
    (hg : gates.count true + 1 = s.frameLeft.length) :
    ∃ t, execAll ((gates ++ [true]).map .txStep) s = .next t ∧ t.txState = .done ∧
      produced t = produced s ++ s.frameLeft := by
  induction gates generalizing s with
  | nil =>
    obtain ⟨t, b, ht, _, hidle, hleft, hprod⟩ := exec_txStep_open h (List.ne_nil_of_length_pos (by omega))
    have hnil : t.frameLeft = [] := by simpa [hleft] using hg
    have hdone : t.txState = .done := by
      by_contra hd
      exact frameLeft_ne_nil_iff.2 (TxState.busy_eq_true_iff.2 ⟨hidle, hd⟩) hnil
    exact ⟨t, execAll_cons ht, hdone, by rw [hprod, hleft, hnil]⟩
  | cons g gates ih =>
    have hne : s.frameLeft ≠ [] := List.ne_nil_of_length_pos (by omega)
    cases g with
    | false =>
      have hwait : exec (.txStep false) s = .next (respond (txStepResponse none) s) :=
        execTxStep_waits (.inr ⟨frameLeft_ne_nil_iff.1 hne, rfl⟩)
      obtain ⟨t, ht, hdone, hprod⟩ := ih (s := respond (txStepResponse none) s) (h.congr rfl) (by simpa using hg)
      refine ⟨t, (execAll_cons hwait).trans ht, hdone, ?_⟩
      rw [hprod, produced_respond, txProduced_none, Option.toList_none, List.append_nil, frameLeft_respond]
    | true =>
      obtain ⟨u, b, hu, hinv, _, hleft, hprod⟩ := exec_txStep_open h hne
      obtain ⟨t, ht, hdone, hprod'⟩ := ih hinv (by simpa [hleft] using hg)
      refine ⟨t, (execAll_cons hu).trans ht, hdone, ?_⟩
      rw [hprod', hprod, hleft, List.append_assoc, List.singleton_append]

/-- Right after TX_BEGIN the whole frame is left (41_transmit.md R120). -/
theorem frameLeft_beginSend (n : Byte) (s : State) : (beginSend n s).frameLeft =
    0x02 :: n :: txBytes s n.toNat ++ [checksum s.params.chk n (txBytes s n.toNat), 0x03] := rfl

/-- Settles O20: after TX_BEGIN the whole frame is left, and the TX_STEPs put out what is left. -/
theorem sendEmitsExactlyTheFrame : Obligations.SendEmitsExactlyTheFrame := by
  intro n s gates hn hs hg
  have hfits : ¬ s.params.maxPayload < n := Nat.not_lt.2 hn
  have hbegin := exec_txBegin_free hfits (TxState.busy_eq_false_iff.2 hs)
  obtain ⟨t, ht, hdone, hprod⟩ := execAll_txSteps (gates := gates)
    (s := respond (txBeginResponse true) (beginSend n s)) ((beginSend_txInv hfits).congr rfl)
    (by simp [frameLeft_beginSend, hg])
  refine ⟨t, (execAll_cons hbegin).trans ht, hdone, ?_, (validFrame_iff _ _ hn (length_txBytes s _)).2 ⟨rfl, rfl⟩⟩
  rw [hprod, produced_respond, txProduced_txBegin, Option.toList_none, List.append_nil, frameLeft_respond,
    frameLeft_beginSend]
  rfl

end Sys2Proof.Machine

namespace Sys2Proof.Machine

/-! RX_BYTE state by state (42_receive.md R151 to R159): one equation per branch of each arm, with the response as a
number. -/

/-- A byte's checksum test as a test of numbers (40_checksum.md R105). -/
theorem eq_chkFinal_iff {b : Byte} {acc : Word} : b = chkFinal acc ↔ b.toNat = acc.toNat % 256 := by
  rw [← chkFinal_toNat, BitVec.toNat_inj]

/-- A byte that sets no output and leaves the parser assembling answers `0x0001` (42_receive.md R160). -/
theorem exec_rxByte_of_plain {b : Byte} {s t : State} (h : rxArm b s = some (rxPlain t))
    (ht : sigOf t.rxState = 0) : exec (.rxByte b) s = .next (respond 0x0001 t) := by
  rw [← rxByteResponse_assembling ht]
  exact (exec_rxByte_of_arm h :)

/-- A byte that shows an error enters `Error`, and the response carries the cause (60_exceptions.md R217). -/
theorem exec_rxByte_of_fail {b : Byte} {c : Cause} {s t : State} (h : rxArm b s = some (rxFail c t)) :
    exec (.rxByte b) s = .next (respond (rxByteResponse true .error false false c) (enterError c t)) :=
  (exec_rxByte_of_arm h :)

/-! ### WaitStart and Error -/

/-- Outside a frame any byte but the start marker is noise (42_receive.md R151, R159). -/
theorem rxArm_noise {b : Byte} {s : State} (hs : s.rxState = .waitStart ∨ s.rxState = .error) (hb : b ≠ stx) :
    rxArm b s = some (rxDiscard s) := by
  obtain hs | hs := hs <;> simp only [rxArm, hs, rxWaitStart, rxResync, if_neg hb]

/-- A start marker in `WaitStart` starts a frame (42_receive.md R151). -/
theorem exec_rxByte_start {s : State} (hs : s.rxState = .waitStart) :
    exec (.rxByte stx) s = .next (respond 0x0001 { s with rxState := .readLength }) :=
  exec_rxByte_of_plain (by simp only [rxArm, hs, rxWaitStart, if_true]) rfl

/-- Noise in `WaitStart` (42_receive.md R151). -/
theorem exec_rxByte_noise {b : Byte} {s : State} (hs : s.rxState = .waitStart) (hb : b ≠ stx) :
    exec (.rxByte b) s = .next (respond 0x0009 s) := by
  rw [← rxByteResponse_noise, ← hs]
  exact (exec_rxByte_of_arm (rxArm_noise (.inl hs) hb) :)

/-- A start marker in `Error` resyncs (42_receive.md R159). -/
theorem exec_rxByte_resync {s : State} (hs : s.rxState = .error) :
    exec (.rxByte stx) s = .next (respond 0x0011 (leaveError s)) := by
  rw [← rxByteResponse_resync]
  exact exec_rxByte_of_arm (o := ⟨leaveError s, false, true, .none⟩) (by simp only [rxArm, hs, rxResync, if_true])

/-- Noise in `Error` (42_receive.md R159). -/
theorem exec_rxByte_noiseInError {b : Byte} {s : State} (hs : s.rxState = .error) (hb : b ≠ stx) :
    exec (.rxByte b) s = .next (respond 0x000D s) := by
  rw [← rxByteResponse_noiseInError, ← hs]
  exact (exec_rxByte_of_arm (rxArm_noise (.inr hs) hb) :)

/-- Settles O21: the start marker starts a frame, anything else is noise. -/
theorem rxByteInWaitStart : Obligations.RxByteInWaitStart := by
  intro b s hs
  by_cases hb : b = 0x02
  · rw [if_pos hb, hb]
    exact exec_rxByte_start hs
  · rw [if_neg hb]
    exact exec_rxByte_noise hs hb

/-- Settles O27: the start marker resyncs, anything else is noise. -/
theorem rxByteInErrorResyncs : Obligations.RxByteInErrorResyncs := by
  intro b s hs
  by_cases hb : b = 0x02
  · rw [if_pos hb, hb]
    exact exec_rxByte_resync hs
  · rw [if_neg hb]
    exact exec_rxByte_noiseInError hs hb

/-- Settles O26: the arm of `Ready` refuses every byte. -/
theorem rxByteInReadyIsNotConsumed : Obligations.RxByteInReadyIsNotConsumed :=
  fun b _ hs => exec_rxByte_of_ready b hs

/-! ### ReadLength -/

/-- A length above the ceiling is an error (42_receive.md R152, 60_exceptions.md R211). -/
theorem exec_rxByte_lengthOverflow {b : Byte} {s : State} (hs : s.rxState = .readLength)
    (hb : s.params.maxPayload < b) :
    exec (.rxByte b) s = .next (respond 0x0025 (enterError .lengthOverflow s)) := by
  rw [← rxByteResponse_lengthOverflow]
  exact exec_rxByte_of_fail (by simp only [rxArm, hs, rxReadLength, if_pos hb])

/-- A length up to the ceiling starts the data (42_receive.md R152). -/
theorem exec_rxByte_length {b : Byte} {s : State} (hs : s.rxState = .readLength) (hb : ¬ s.params.maxPayload < b) :
    exec (.rxByte b) s = .next (respond 0x0001 (startFrame b s)) := by
  refine exec_rxByte_of_plain (rxArm_length hs hb) ?_
  obtain ⟨_, hst⟩ | ⟨_, hst⟩ := startFrame_rxState b s <;> rw [hst] <;> rfl

/-- A frame skips the data phase exactly when its length is 0 (42_receive.md R152). -/
theorem startFrame_eq (b : Byte) (s : State) :
    startFrame b s = { s with
      rxLen := b, rxCursor := 0, rxAcc := chkSeed s.params.chk b,
      rxState := if b = 0 then .readChecksum else .readData } := by
  by_cases hb : b = 0
  · simp [startFrame, hb]
  · have hpos : 0 < b := (BitVec.pos_iff_ne_zero _).2 hb
    simp only [startFrame, hb, hpos, if_true, if_false]

/-- Settles O22: the length is compared with the ceiling, as numbers, before anything is written. -/
theorem rxByteInReadLength : Obligations.RxByteInReadLength := by
  refine fun b s hs => ⟨fun hb => exec_rxByte_lengthOverflow hs hb, fun hb => ?_⟩
  rw [exec_rxByte_length hs (Nat.not_lt.2 hb), startFrame_eq]
  rfl

/-! ### ReadData -/

/-- A byte with no cell to go to is an error and is not stored (42_receive.md R153, 60_exceptions.md R212). -/
theorem exec_rxByte_overrun {s : State} (b : Byte) (hs : s.rxState = .readData) (hn : ¬ s.stores) :
    exec (.rxByte b) s = .next (respond 0x0045 (enterError .bufferOverrun s)) := by
  rw [← rxByteResponse_bufferOverrun]
  exact exec_rxByte_of_fail (by simp only [rxArm, hs, rxReadData_of_not_stores hs hn])

/-- A byte with a cell to go to is stored there (42_receive.md R153). -/
theorem exec_rxByte_store {s : State} (b : Byte) (h : s.stores) :
    exec (.rxByte b) s = .next (respond 0x0001 (storeByte b s)) := by
  refine exec_rxByte_of_plain (rxArm_of_stores b h) ?_
  obtain ⟨_, hst⟩ | ⟨_, hst⟩ := storeByte_rxState b s <;> rw [hst] <;> rfl

/-- The store leaves the data phase when the cursor, as a number, reaches the length (42_receive.md R153). -/
theorem storeByte_eq {s : State} (b : Byte) (h : s.rxCursor < s.rxLen) :
    storeByte b s = { s with
      rxbuf := (storeByte b s).rxbuf,
      rxAcc := chkFold s.params.chk s.rxAcc b,
      rxCursor := BitVec.ofNat 8 (s.rxCursor.toNat + 1),
      rxState := if s.rxCursor.toNat + 1 = s.rxLen.toNat then .readChecksum else .readData } := by
  have hcur : BitVec.ofNat 8 (s.rxCursor.toNat + 1) = s.rxCursor + 1 := by
    rw [← succ_toNat_of_byte_lt h, BitVec.ofNat_toNat, BitVec.setWidth_eq]
  have hend : s.rxCursor.toNat + 1 = s.rxLen.toNat ↔ s.rxCursor + 1 = s.rxLen := by
    rw [← succ_toNat_of_byte_lt h, BitVec.toNat_inj]
  simp only [storeByte, hcur, hend]

/-- Settles O23: the guard compares the cursor, as a number, with the length and the ceiling; below both the byte is
stored at the cursor. -/
theorem rxByteInReadData : Obligations.RxByteInReadData := by
  refine fun b s hs => ⟨fun hc => exec_rxByte_overrun b hs ?_, fun hl hm => ?_⟩
  · rintro ⟨_, hl, hm⟩
    exact hc.elim (Nat.not_le.2 hl) (Nat.not_le.2 hm)
  · refine ⟨_, exec_rxByte_store b ⟨hs, hl, hm⟩, ?_, readRx_storeByte b hm⟩
    exact congrArg (respond 0x0001) (storeByte_eq b hl)

/-! ### ReadChecksum -/

/-- The checksum byte is claimed: always under DEFERRED, and when it is right under EARLY
(42_receive.md R154, R155). -/
theorem exec_rxByte_claim {b : Byte} {s : State} (hs : s.rxState = .readChecksum)
    (hb : s.params.topology = .deferred ∨ b = chkFinal s.rxAcc) :
    exec (.rxByte b) s = .next (respond 0x0001 { s with rxClaimed := b, rxState := .waitEnd }) := by
  refine exec_rxByte_of_plain ?_ rfl
  cases ht : s.params.topology with
  | deferred => simp only [rxArm, hs, rxReadChecksum, ht, rxReadChecksumDeferred]
  | early =>
    have heq : b = chkFinal s.rxAcc := hb.resolve_left (by simp [ht])
    simp only [rxArm, hs, rxReadChecksum, ht, rxReadChecksumEarly, if_pos heq]

/-- Under EARLY a wrong checksum byte is an error at once, and is written all the same (42_receive.md R155). -/
theorem exec_rxByte_earlyMismatch {b : Byte} {s : State} (hs : s.rxState = .readChecksum)
    (ht : s.params.topology = .early) (hb : b ≠ chkFinal s.rxAcc) :
    exec (.rxByte b) s = .next (respond 0x0065 (enterError .checksumMismatch { s with rxClaimed := b })) := by
  rw [← rxByteResponse_checksumMismatch]
  exact exec_rxByte_of_fail (by simp only [rxArm, hs, rxReadChecksum, ht, rxReadChecksumEarly, if_neg hb])

/-- Settles O24: DEFERRED claims every byte, EARLY only the low byte of the accumulator. -/
theorem rxByteInReadChecksum : Obligations.RxByteInReadChecksum := by
  refine fun b s hs => ⟨fun hb => ?_, fun ht hb => ?_⟩
  · exact exec_rxByte_claim hs (hb.imp_right eq_chkFinal_iff.2)
  · exact exec_rxByte_earlyMismatch hs ht (mt eq_chkFinal_iff.1 hb)

/-! ### WaitEnd -/

/-- Any byte but the end marker is an error, whatever the checksum (42_receive.md R156, R157). -/
theorem exec_rxByte_framingError {b : Byte} {s : State} (hs : s.rxState = .waitEnd) (hb : b ≠ etx) :
    exec (.rxByte b) s = .next (respond 0x0085 (enterError .framingError s)) := by
  rw [← rxByteResponse_framingError]
  apply exec_rxByte_of_fail
  cases ht : s.params.topology <;>
    simp only [rxArm, hs, rxWaitEnd, ht, rxWaitEndDeferred, rxWaitEndEarly, if_pos hb]

/-- Under DEFERRED a wrong checksum is found at the end marker (42_receive.md R156). -/
theorem exec_rxByte_deferredMismatch {s : State} (hs : s.rxState = .waitEnd) (ht : s.params.topology = .deferred)
    (hk : s.rxClaimed ≠ chkFinal s.rxAcc) :
    exec (.rxByte etx) s = .next (respond 0x0065 (enterError .checksumMismatch s)) := by
  rw [← rxByteResponse_checksumMismatch]
  apply exec_rxByte_of_fail
  simp only [rxArm, hs, rxWaitEnd, ht, rxWaitEndDeferred, ne_eq, not_true, if_false, if_pos hk]

/-- The end marker completes the frame, whose checksum EARLY has tested and DEFERRED tests here
(42_receive.md R156, R157). -/
theorem exec_rxByte_complete {s : State} (hs : s.rxState = .waitEnd)
    (hk : s.params.topology = .early ∨ s.rxClaimed = chkFinal s.rxAcc) :
    exec (.rxByte etx) s = .next (respond 0x0003 { s with rxState := .ready }) := by
  rw [← rxByteResponse_complete]
  apply exec_rxByte_of_arm (o := rxPlain { s with rxState := .ready })
  cases ht : s.params.topology with
  | early => simp only [rxArm, hs, rxWaitEnd, ht, rxWaitEndEarly, ne_eq, not_true, if_false]
  | deferred =>
    have heq : s.rxClaimed = chkFinal s.rxAcc := hk.resolve_left (by simp [ht])
    simp only [rxArm, hs, rxWaitEnd, ht, rxWaitEndDeferred, heq, ne_eq, not_true, if_false]

/-- Settles O25: the end marker is tested first, then under DEFERRED the claimed byte. -/
theorem rxByteInWaitEnd : Obligations.RxByteInWaitEnd := by
  refine fun b s hs => ⟨fun hb => ?_, fun ht hk => ?_, fun hk => ?_⟩
  · exact exec_rxByte_framingError hs hb
  · exact exec_rxByte_deferredMismatch hs ht (mt eq_chkFinal_iff.1 hk)
  · exact exec_rxByte_complete hs (hk.imp_right eq_chkFinal_iff.2)

end Sys2Proof.Machine

namespace Sys2Proof.Machine

/-! The outputs of RX_BYTE (42_receive.md R160, R161, 30_encoding.md R90, R91). -/

/-- `sig` tells `Ready` and `Error` from the other states (42_receive.md R160). -/
theorem sigOf_eq (st : RxState) : sigOf st = if st = .ready then 1#2 else if st = .error then 2#2 else 0#2 := by
  cases st <;> rfl

/-- Within a frame a byte sets no output, or shows an error (42_receive.md R152 to R157). -/
theorem rxArm_plain_or_fail {b : Byte} {s : State} {o : RxOut} (hw : s.rxState ≠ .waitStart) (he : s.rxState ≠ .error)
    (h : rxArm b s = some o) :
    (∃ t, t.rxState ≠ .error ∧ o = rxPlain t) ∨ ∃ c t, o = rxFail c t := by
  obtain ⟨hs, _⟩ | ⟨hs, _⟩ | ⟨hs, _⟩ | ⟨_, rfl⟩ | ⟨_, rfl⟩ | ⟨_, rfl⟩ | ⟨_, rfl⟩ := rxArm_some h
  · exact (hs.elim hw he).elim
  · exact absurd hs hw
  · exact absurd hs he
  · unfold rxReadLength
    split
    · exact .inr ⟨_, _, rfl⟩
    · exact .inl ⟨_, by dsimp only; split <;> simp, rfl⟩
  · unfold rxReadData
    split
    · exact .inr ⟨_, _, rfl⟩
    · exact .inl ⟨_, by dsimp only; split <;> simp, rfl⟩
  · unfold rxReadChecksum rxReadChecksumDeferred rxReadChecksumEarly
    split
    · exact .inl ⟨_, by simp, rfl⟩
    · split
      · exact .inl ⟨_, by simp, rfl⟩
      · exact .inr ⟨_, _, rfl⟩
  · unfold rxWaitEnd rxWaitEndDeferred rxWaitEndEarly
    split <;> split
    · exact .inr ⟨_, _, rfl⟩
    · split
      · exact .inr ⟨_, _, rfl⟩
      · exact .inl ⟨_, by simp, rfl⟩
    · exact .inr ⟨_, _, rfl⟩
    · exact .inl ⟨_, by simp, rfl⟩

/-- The outputs of an arm by the old state, the byte and the new state (42_receive.md R161, 60_exceptions.md R217). -/
theorem rxArm_outputs {b : Byte} {s : State} {o : RxOut} (h : rxArm b s = some o) :
    o.discarded = decide ((s.rxState = .waitStart ∨ s.rxState = .error) ∧ b ≠ stx) ∧
      o.resync = decide (s.rxState = .error ∧ b = stx) ∧
      o.cause = (if s.rxState ≠ .error ∧ o.state.rxState = .error then o.state.lastError else .none) := by
  obtain ⟨hs, hb, rfl⟩ | ⟨hs, rfl, rfl⟩ | ⟨hs, rfl, rfl⟩ | hframe := rxArm_some h
  · obtain hs | hs := hs <;> simp [rxDiscard, hs, hb]
  · simp [rxPlain, hs]
  · simp [hs]
  · have hw : s.rxState ≠ .waitStart := fun hs => by simp [hs] at hframe
    have he : s.rxState ≠ .error := fun hs => by simp [hs] at hframe
    obtain ⟨t, ht, rfl⟩ | ⟨c, t, rfl⟩ := rxArm_plain_or_fail hw he h
    · simp [rxPlain, hw, he, ht]
    · simp [rxFail, hw, he]

/-- Every arm consumes its byte; the arm of `Ready` alone does not (42_receive.md R150, R158). -/
theorem ne_ready_of_rxArm {b : Byte} {s : State} {o : RxOut} (h : rxArm b s = some o) : s.rxState ≠ .ready :=
  fun hs => by simp [rxArm, hs] at h

/-- Settles O28: in `Ready` the word is `0x0002`; elsewhere its fields are the outputs of the arm, and the arm that
discards its byte leaves the state. -/
theorem rxByteResponseFields : Obligations.RxByteResponseFields := by
  intro b s
  obtain ⟨t, ht⟩ := exec_rxByte_answers b s
  obtain ⟨hs, rfl⟩ | ⟨o, ho, rfl⟩ := execRxByte_next ht
  · refine ⟨_, _, ht, rfl, ?_⟩
    simp [hs]
  · obtain ⟨hacc, hsig, hdisc, hres, hcause, hhigh⟩ :=
      rxByteResponse_fields true o.state.rxState o.discarded o.resync o.cause
    obtain ⟨hod, hor, hoc⟩ := rxArm_outputs ho
    refine ⟨_, _, ht, congrArg _ (rxArm_responses ho), ?_, ?_, ?_, ?_, ?_, hhigh, ?_⟩
    · rw [hacc, decide_eq_true (ne_ready_of_rxArm ho)]
    · rw [hsig]; exact sigOf_eq _
    · rw [hdisc, hod]; rfl
    · rw [hres, hor]; rfl
    · rw [hcause, hoc, apply_ite Cause.code]
      rfl
    · intro hd
      obtain ⟨hs, hb⟩ := of_decide_eq_true (hod.symm.trans (hdisc.symm.trans hd))
      obtain rfl : rxDiscard s = o := by simpa [rxArm_noise hs hb] using ho
      exact ⟨rfl, hcause⟩

end Sys2Proof.Machine

namespace Sys2Proof.Machine

/-! The two topologies (42_receive.md R163). -/

/-- The block built with another topology. -/
def State.withTopology (u : RxTopology) (s : State) : State :=
  { s with params := { s.params with topology := u } }

/-- Two bytes offered one after the other. -/
theorem execAll_feed_pair {c x : Byte} {s t u : State} (hc : exec (.rxByte c) s = .next t)
    (hx : exec (.rxByte x) t = .next u) : execAll (feed [c, x]) s = .next u :=
  (execAll_cons hc).trans (execAll_cons hx)

/-- What the checksum byte and the byte after it leave. A right checksum is claimed under both topologies; a wrong one
DEFERRED claims too, and EARLY answers with an error from which a start marker resyncs (42_receive.md R163). -/
theorem execAll_feed_tail_outcome {s : State} (c x : Byte) (hs : s.rxState = .readChecksum) :
    ∃ t : State, execAll (feed [c, x]) s = .next t ∧
      (t.rxState, t.lastError) =
        (if c = chkFinal s.rxAcc then
          if x = etx then (.ready, s.lastError) else (.error, .framingError)
        else match s.params.topology with
          | .deferred => if x = etx then (.error, .checksumMismatch) else (.error, .framingError)
          | .early => if x = stx then (.readLength, .checksumMismatch) else (.error, .checksumMismatch)) := by
  by_cases hc : c = chkFinal s.rxAcc
  · have hclaim := exec_rxByte_claim hs (.inr hc)
    by_cases hx : x = etx
    · subst hx
      exact ⟨_, execAll_feed_pair hclaim (exec_rxByte_complete rfl (.inr hc)), by simp [hc]⟩
    · exact ⟨_, execAll_feed_pair hclaim (exec_rxByte_framingError rfl hx), by simp [hc, hx]⟩
  cases ht : s.params.topology with
  | deferred =>
    have hclaim := exec_rxByte_claim (b := c) hs (.inl ht)
    by_cases hx : x = etx
    · subst hx
      exact ⟨_, execAll_feed_pair hclaim (exec_rxByte_deferredMismatch rfl ht hc), by simp [hc]⟩
    · exact ⟨_, execAll_feed_pair hclaim (exec_rxByte_framingError rfl hx), by simp [hc, hx]⟩
  | early =>
    have hfail := exec_rxByte_earlyMismatch hs ht hc
    by_cases hx : x = stx
    · subst hx
      exact ⟨_, execAll_feed_pair hfail (exec_rxByte_resync rfl), by simp [hc]⟩
    · exact ⟨_, execAll_feed_pair hfail (exec_rxByte_noiseInError rfl hx), by simp [hc, hx]⟩

/-- Outside `ReadChecksum` and `WaitEnd` RX_BYTE does not look at the topology (42_receive.md R163). -/
theorem exec_rxByte_withTopology (b : Byte) {s : State} (u : RxTopology) (hc : s.rxState ≠ .readChecksum)
    (hw : s.rxState ≠ .waitEnd) : ∃ t : State, exec (.rxByte b) s = .next t ∧
      exec (.rxByte b) (s.withTopology u) = .next (t.withTopology u) := by
  cases hs : s.rxState with
  | waitStart =>
    by_cases hb : b = stx
    · subst hb
      exact ⟨_, exec_rxByte_start hs, exec_rxByte_start (s := s.withTopology u) hs⟩
    · exact ⟨_, exec_rxByte_noise hs hb, exec_rxByte_noise (s := s.withTopology u) hs hb⟩
  | readLength =>
    by_cases hb : s.params.maxPayload < b
    · exact ⟨_, exec_rxByte_lengthOverflow hs hb, exec_rxByte_lengthOverflow (s := s.withTopology u) hs hb⟩
    · exact ⟨_, exec_rxByte_length hs hb, exec_rxByte_length (s := s.withTopology u) hs hb⟩
  | readData =>
    by_cases hst : s.stores
    · exact ⟨_, exec_rxByte_store b hst, exec_rxByte_store (s := s.withTopology u) b hst⟩
    · exact ⟨_, exec_rxByte_overrun b hs hst, exec_rxByte_overrun (s := s.withTopology u) b hs hst⟩
  | readChecksum => exact absurd hs hc
  | waitEnd => exact absurd hs hw
  | ready => exact ⟨_, exec_rxByte_of_ready b hs, exec_rxByte_of_ready (s := s.withTopology u) b hs⟩
  | error =>
    by_cases hb : b = stx
    · subst hb
      exact ⟨_, exec_rxByte_resync hs, exec_rxByte_resync (s := s.withTopology u) hs⟩
    · exact ⟨_, exec_rxByte_noiseInError hs hb, exec_rxByte_noiseInError (s := s.withTopology u) hs hb⟩

/-- Settles O43: the checksum test of the table is the test of numbers, and the topology is the only parameter that
differs. -/
theorem topologiesDifferOnlyAfterABadChecksum : Obligations.TopologiesDifferOnlyAfterABadChecksum := by
  refine ⟨fun s c x hs => ?_, fun s b u hc hw => ?_⟩
  · obtain ⟨t, ht, htab⟩ := execAll_feed_tail_outcome c x hs
    simp only [eq_chkFinal_iff] at htab
    exact ⟨t, ht, htab⟩
  · obtain ⟨t, ht, hu⟩ := exec_rxByte_withTopology b u hc hw
    refine ⟨t, ht, hu.trans ?_⟩
    rw [State.withTopology, exec_params ht]

end Sys2Proof.Machine

namespace Sys2Proof.Machine

/-! A frame from framer to parser (42_receive.md R164). -/

/-- Noise changes neither the parser's state nor the parameters (42_receive.md R151, R159). -/
theorem execAll_feed_noise {noise : List Byte} (rest : List Byte) {s : State}
    (hs : s.rxState = .waitStart ∨ s.rxState = .error) (hn : ∀ b ∈ noise, b ≠ stx) :
    ∃ t, execAll (feed (noise ++ rest)) s = execAll (feed rest) t ∧ t.rxState = s.rxState ∧ t.params = s.params := by
  induction noise generalizing s with
  | nil => exact ⟨s, rfl, rfl, rfl⟩
  | cons b noise ih =>
    obtain ⟨hb, hrest⟩ := List.forall_mem_cons.1 hn
    obtain ⟨w, hw⟩ := execAll_feed_cons (noise ++ rest) (rxArm_noise hs hb)
    obtain ⟨t, ht, hst, hp⟩ := ih (s := respond w s) hs hrest
    exact ⟨t, hw.trans ht, hst, hp⟩

/-- A whole frame, noise before it or not, is received (42_receive.md R162, R164). -/
theorem execAll_feed_noise_frame {noise data : List Byte} {s : State} {n : Byte}
    (hs : s.rxState = .waitStart ∨ s.rxState = .error) (hnoise : ∀ b ∈ noise, b ≠ stx)
    (hn : n.toNat ≤ s.params.maxPayload.toNat) (hd : data.length = n.toNat) :
    ∃ t, execAll (feed (noise ++ stx :: n :: (data ++ [checksum s.params.chk n data, etx]))) s = .next t ∧
      t.rxState = .ready ∧ t.rxLen = n ∧ rxBytes t n.toNat = data := by
  obtain ⟨u, hu, hst, hp⟩ := execAll_feed_noise (stx :: n :: (data ++ [checksum s.params.chk n data, etx])) hs hnoise
  obtain ⟨t, ht, hready, hframe⟩ := parserAcceptsExactlyTheValidFrames u n
    (data ++ [checksum s.params.chk n data, etx]) (hst ▸ hs) (hp ▸ hn) (by simp [hd])
  have hr : t.rxState = .ready := hready.2 ((validFrame_iff _ _ (hp ▸ hn) hd).2 ⟨by rw [hp], rfl⟩)
  obtain ⟨hlen, hbytes⟩ := hframe hr
  exact ⟨t, hu.trans ht, hr, hlen, by rw [hbytes, ← hd, List.take_left]⟩

/-- Settles O44: the send puts out a whole frame, which a parser with the same parameters receives after the noise. -/
theorem roundTripDeliversThePayload : Obligations.RoundTripDeliversThePayload := by
  intro n s r noise hp hn hs hr hnoise
  obtain ⟨t, ht, _, hprod, _⟩ := sendEmitsExactlyTheFrame n s (List.replicate (n.toNat + 3) true) hn hs (by simp)
  obtain ⟨u, hu, hready, hlen, hbytes⟩ := execAll_feed_noise_frame (s := r) hr hnoise (hp ▸ hn) (length_txBytes s _)
  have hsteps : (List.replicate (n.toNat + 3) true ++ [true]).map Instr.txStep =
      List.replicate (n.toNat + 4) (.txStep true) := by
    rw [← List.replicate_succ', List.map_replicate]
  refine ⟨t, u, by rw [← hsteps, ht], ?_, hready, hlen, hbytes⟩
  rw [hprod, List.drop_left, ← hu, hp]
  rfl

end Sys2Proof.Machine

namespace Sys2Proof.Machine

/-! Frame collection: RX_TAKE (43_collect_control.md R190). -/

/-- A frame in `Ready` that fits is collected, and its length returned (43_collect_control.md R190). -/
theorem exec_rxTake_collects {cap : Byte} {s : State} (hs : s.rxState = .ready) (hc : s.rxLen.toNat ≤ cap.toNat) :
    exec (.rxTake cap) s = .next (respond (0x0100 ||| s.rxLen.setWidth 16) (takeFrame s)) := by
  rw [← rxTakeResponse_some]
  exact execRxTake_frame hs (Nat.not_lt.2 hc)

/-- Settles O37: RX_TAKE returns nothing, or the state with the frame taken, whose HOSTOUT the copy loop wrote. -/
theorem rxTakeCollectsOrReturnsNothing : Obligations.RxTakeCollectsOrReturnsNothing := by
  refine fun cap s => ⟨packWord_eq_or 0x4 cap, fun h => ?_, fun hs hc => ?_⟩
  · exact execRxTake_nothing h
  · exact ⟨_, exec_rxTake_collects hs hc, rfl, readOut_takeFrame s⟩

/-- Past RXBUF's end a read does not look at the list of written cells (20_memory.md R50, log 9). -/
theorem readRx_past_rxbuf {s : State} {a : Nat} (h : s.params.maxPayload.toNat ≤ a) :
    readRx s a = Config.rxbufCell s.draws a :=
  if_neg (Nat.not_lt.2 h)

/-- HOSTOUT from `MAX_PAYLOAD` up after a collection is the same from any buffer (43_collect_control.md R190,
log 9). -/
theorem readOut_takeFrame_past_rxbuf (s : State) (m : Memory) {a : Nat} (h : s.params.maxPayload.toNat ≤ a) :
    readOut (takeFrame { s with rxbuf := m }) a = readOut (takeFrame s) a := by
  have hread : readRx { s with rxbuf := m } a = readRx s a :=
    (readRx_past_rxbuf (s := { s with rxbuf := m }) h).trans (readRx_past_rxbuf h).symm
  rw [readOut_takeFrame, readOut_takeFrame, hread]
  rfl

/-- Settles O38: the frame is collected from either buffer, and only the copied bytes below `MAX_PAYLOAD` come from
the buffer's list. -/
theorem rxTakePastTheBufferCollects : Obligations.RxTakePastTheBufferCollects := by
  intro cap s m hs hc hlen
  refine ⟨_, _, exec_rxTake_collects hs hc, exec_rxTake_collects (s := { s with rxbuf := m }) hs hc,
    rfl, rfl, rfl, rfl, rfl, rfl, fun a ha => ?_, fun a ha => ?_⟩
  · rw [readOut_respond, readOut_takeFrame, if_pos (ha.trans hlen)]
  · exact readOut_takeFrame_past_rxbuf s m ha

end Sys2Proof.Machine

namespace Sys2Proof.Machine

/-! The control commands STATUS and NOP (43_collect_control.md R191, R192). -/

/-! ### STATUS -/

/-- `desync` as a test of `rx_state` (43_collect_control.md R191). -/
theorem RxState.desync_eq (st : RxState) : st.desync = decide (st = .waitStart ∨ st = .error) := by
  cases st <;> rfl

/-- `tx_busy` as a test of `tx_state` (43_collect_control.md R191). -/
theorem TxState.busy_eq (st : TxState) : st.busy = decide (st ≠ .idle ∧ st ≠ .done) := by
  cases st <;> rfl

/-- Every field of the STATUS word: each is the low part of what is left when the fields below it are cut off
(30_encoding.md R93). -/
theorem statusWord_fields (s : State) :
    (statusWord s).extractLsb' 0 3 = s.rxState.code ∧ (statusWord s).getLsbD 3 = s.rxState.desync ∧
    (statusWord s).extractLsb' 4 3 = s.txState.code ∧ (statusWord s).getLsbD 7 = s.txState.busy ∧
    (statusWord s).extractLsb' 8 3 = s.lastError.code ∧ (statusWord s).extractLsb' 11 5 = 0 := by
  unfold statusWord
  refine ⟨BitVec.extractLsb'_append_eq_right, ?desync, ?txCode, ?busy, ?cause, ?high⟩
  case desync | busy => simp only [BitVec.getLsbD_append]; simp
  all_goals
    rw [BitVec.extractLsb'_append_eq_of_le (by decide)]
    simp (disch := decide) only [BitVec.extractLsb'_append_eq_of_le]
  case txCode | cause => exact BitVec.extractLsb'_append_eq_right
  case high => exact BitVec.extractLsb'_eq_self

/-- Settles O39: STATUS records the STATUS word, whose fields are the codes and tests of the statement. -/
theorem statusReturnsTheStatusWord : Obligations.StatusReturnsTheStatusWord := by
  refine ⟨rfl, fun s => ⟨statusWord s, rfl, ?_⟩⟩
  obtain ⟨hrx, hdesync, htx, hbusy, hcause, hhigh⟩ := statusWord_fields s
  rw [RxState.desync_eq] at hdesync
  rw [TxState.busy_eq] at hbusy
  exact ⟨hrx, hdesync, htx, hbusy, hcause, hhigh⟩

/-! ### NOP -/

/-- NOP records its response and changes nothing else (43_collect_control.md R192). -/
theorem exec_nop (s : State) : exec .nop s = .next (respond 0x0000 s) := rfl

/-- The all-zero word spells NOP (43_collect_control.md R192). -/
theorem decode_zero : decode 0x0000 = .ok .nop := decode_eq_ok_iff.2 rfl

/-- Settles O40: the step issues the all-zero word, which runs NOP. -/
theorem nopChangesNothing : Obligations.NopChangesNothing := by
  refine fun s rest hp => ⟨?_, exec_nop s⟩
  rw [step_command hp, issue_of_decode decode_zero, exec_nop]
  rfl

end Sys2Proof.Machine

namespace Sys2Proof.Machine

/-! Entering `Error` (60_exceptions.md R217). -/

/-- The checksum byte a state keeps through an entry into `Error`: EARLY has stored the byte it finds wrong
(42_receive.md R155). -/
def State.claimAtError (b : Byte) (s : State) : Byte :=
  if s.rxState = .readChecksum ∧ s.params.topology = .early then b else s.rxClaimed

/-- The state after RX_BYTE has entered `Error` with a cause (60_exceptions.md R217). -/
def State.enteredError (b : Byte) (s t : State) : Prop :=
  ∃ c, c ≠ .none ∧ t = respond (rxByteResponse true .error false false c)
    (enterError c { s with rxClaimed := s.claimAtError b })

/-- Outside `ReadChecksum` an entry into `Error` stores no checksum byte. -/
theorem enteredError_of_ne_readChecksum {b : Byte} {s : State} {c : Cause} (hs : s.rxState ≠ .readChecksum)
    (hc : c ≠ .none) : s.enteredError b (respond (rxByteResponse true .error false false c) (enterError c s)) := by
  have hclaim : s.claimAtError b = s.rxClaimed := if_neg fun h => hs h.1
  exact ⟨c, hc, by rw [hclaim]⟩

theorem RxTopology.ne_deferred_iff {u : RxTopology} : u ≠ .deferred ↔ u = .early := by cases u <;> simp

theorem RxTopology.ne_early_iff {u : RxTopology} : u ≠ .early ↔ u = .deferred := by cases u <;> simp

/-- A byte that brings the parser into `Error` shows one of the four errors (60_exceptions.md R211 to R214). -/
theorem exec_rxByte_enteredError {b : Byte} {s t : State} (h : exec (.rxByte b) s = .next t)
    (hs : s.rxState ≠ .error) (ht : t.rxState = .error) : s.enteredError b t := by
  cases hst : s.rxState with
  | waitStart =>
    by_cases hb : b = stx
    · rw [hb, exec_rxByte_start hst] at h
      cases h; cases ht
    · rw [exec_rxByte_noise hst hb] at h
      cases h; exact absurd ht hs
  | readLength =>
    by_cases hb : s.params.maxPayload < b
    · rw [exec_rxByte_lengthOverflow hst hb, ← rxByteResponse_lengthOverflow] at h
      cases h; exact enteredError_of_ne_readChecksum (by simp [hst]) (by simp)
    · rw [exec_rxByte_length hst hb] at h
      cases h; obtain ⟨_, hf⟩ | ⟨_, hf⟩ := startFrame_rxState b s <;> simp [hf] at ht
  | readData =>
    by_cases hb : s.stores
    · rw [exec_rxByte_store b hb] at h
      cases h; obtain ⟨_, hf⟩ | ⟨_, hf⟩ := storeByte_rxState b s <;> simp [hf] at ht
    · rw [exec_rxByte_overrun b hst hb, ← rxByteResponse_bufferOverrun] at h
      cases h; exact enteredError_of_ne_readChecksum (by simp [hst]) (by simp)
  | readChecksum =>
    by_cases hb : s.params.topology = .deferred ∨ b = chkFinal s.rxAcc
    · rw [exec_rxByte_claim hst hb] at h
      cases h; cases ht
    · obtain ⟨htop, hne⟩ := not_or.1 hb
      have hearly : s.params.topology = .early := RxTopology.ne_deferred_iff.1 htop
      have hclaim : s.claimAtError b = b := if_pos ⟨hst, hearly⟩
      rw [exec_rxByte_earlyMismatch hst hearly hne, ← rxByteResponse_checksumMismatch] at h
      cases h; exact ⟨.checksumMismatch, by simp, by rw [hclaim]⟩
  | waitEnd =>
    by_cases hb : b = etx
    · subst hb
      by_cases hk : s.params.topology = .early ∨ s.rxClaimed = chkFinal s.rxAcc
      · rw [exec_rxByte_complete hst hk] at h
        cases h; cases ht
      · obtain ⟨htop, hne⟩ := not_or.1 hk
        have hdeferred : s.params.topology = .deferred := RxTopology.ne_early_iff.1 htop
        rw [exec_rxByte_deferredMismatch hst hdeferred hne, ← rxByteResponse_checksumMismatch] at h
        cases h; exact enteredError_of_ne_readChecksum (by simp [hst]) (by simp)
    · rw [exec_rxByte_framingError hst hb, ← rxByteResponse_framingError] at h
      cases h; exact enteredError_of_ne_readChecksum (by simp [hst]) (by simp)
  | ready =>
    rw [exec_rxByte_of_ready b hst] at h
    cases h; exact absurd ht hs
  | error => exact absurd hst hs

/-- Settles O29: the byte shows one of the four errors, and the response carries its cause. -/
theorem errorEntryChangesOnlyStateAndCause : Obligations.ErrorEntryChangesOnlyStateAndCause := by
  intro b s t h hs ht
  obtain ⟨c, hc, rfl⟩ := exec_rxByte_enteredError h hs ht
  obtain ⟨hacc, _, _, _, hcause, _⟩ := rxByteResponse_fields true .error false false c
  exact ⟨c, _, hc, hacc, hcause, rfl, rfl⟩

end Sys2Proof.Machine

namespace Sys2Proof.Machine

/-! Each command touches one session (60_exceptions.md R220). -/

/-- What stands beside the block: the two channels, and what the host holds back and has yet to do. -/
def State.surroundings (s : State) : Channel × Channel × Option Byte × List HostAction :=
  (s.txChan, s.rxChan, s.held, s.pending)

/-- No command touches what stands beside the block (20_memory.md R65). -/
theorem exec_surroundings {i : Instr} {s t : State} (h : exec i s = .next t) : t.surroundings = s.surroundings := by
  rcases exec_next h with ⟨_, rfl⟩ | ⟨_, rfl⟩ | ⟨_, _, _, rfl⟩ | ⟨_, _, rfl⟩ | ⟨r, _, hr, rfl⟩ |
    ⟨_, o, _, _, ho, rfl⟩ | ⟨_, _, _, _, _, rfl⟩
  case inr.inr.inr.inr.inl => rw [txArm_frame hr]; rfl
  case inr.inr.inr.inr.inr.inl => rw [(rxArm_frame ho).1]; rfl
  all_goals rfl

/-- Only RESET, TX_BEGIN and TX_STEP write the transmit session (60_exceptions.md R220). -/
theorem exec_txSession {i : Instr} {s t : State} (h : exec i s = .next t) :
    t.txSession = s.txSession ∨ i = .reset ∨ (∃ len, i = .txBegin len) ∨ ∃ g, i = .txStep g := by
  rcases exec_next h with ⟨_, rfl⟩ | ⟨hi, _⟩ | ⟨len, hi, _⟩ | ⟨_, ⟨g, hi⟩, _⟩ | ⟨_, hi, _⟩ |
    ⟨_, _, _, _, ho, rfl⟩ | ⟨_, _, _, _, _, rfl⟩
  · exact .inl rfl
  · exact .inr (.inl hi)
  · exact .inr (.inr (.inl ⟨len, hi⟩))
  · exact .inr (.inr (.inr ⟨g, hi⟩))
  · exact .inr (.inr (.inr ⟨true, hi⟩))
  · exact .inl (rxArm_txSession ho)
  · exact .inl rfl

/-- Only RESET, RX_BYTE and RX_TAKE write the receive session or `last_error` (60_exceptions.md R220). -/
theorem exec_rxSession {i : Instr} {s t : State} (h : exec i s = .next t) :
    (t.rxSession = s.rxSession ∧ t.lastError = s.lastError) ∨
      i = .reset ∨ (∃ b, i = .rxByte b) ∨ ∃ cap, i = .rxTake cap := by
  rcases exec_next h with ⟨_, rfl⟩ | ⟨hi, _⟩ | ⟨_, _, _, rfl⟩ | ⟨_, _, rfl⟩ | ⟨r, _, hr, rfl⟩ |
    ⟨b, _, _, hi, _⟩ | ⟨cap, _, hi, _⟩
  · exact .inl ⟨rfl, rfl⟩
  · exact .inr (.inl hi)
  · exact .inl ⟨rfl, rfl⟩
  · exact .inl ⟨rfl, rfl⟩
  · rw [txArm_frame hr]
    exact .inl ⟨rfl, rfl⟩
  · exact .inr (.inr (.inl ⟨b, hi⟩))
  · exact .inr (.inr (.inr ⟨cap, hi⟩))

/-- Settles O33: each session has its own writers, and what stands beside the block has none. -/
theorem eachCommandTouchesOneSession : Obligations.EachCommandTouchesOneSession := by
  intro i s t h
  refine ⟨fun hreset hbegin hstep => ?_, fun hreset hbyte htake => ?_, ?_⟩
  · obtain he | hi | ⟨len, hi⟩ | ⟨g, hi⟩ := exec_txSession h
    · simp only [State.txSession, Prod.mk.injEq] at he
      exact he.2
    · exact absurd hi hreset
    · exact absurd hi (hbegin len)
    · exact absurd hi (hstep g)
  · obtain ⟨he, hlast⟩ | hi | ⟨b, hi⟩ | ⟨cap, hi⟩ := exec_rxSession h
    · simp only [State.rxSession, Prod.mk.injEq] at he
      obtain ⟨_, hst, hlen, hcur, hacc, hclaim, _⟩ := he
      exact ⟨hst, hlen, hcur, hacc, hclaim, hlast⟩
    · exact absurd hi hreset
    · exact absurd hi (hbyte b)
    · exact absurd hi (htake cap)
  · simpa only [State.surroundings, Prod.mk.injEq] using exec_surroundings h

end Sys2Proof.Machine

namespace Sys2Proof.Machine

/-! Leaving `Error` (60_exceptions.md R218). -/

/-- A command that leaves `Error` is a start marker or RESET (60_exceptions.md R218). -/
theorem exec_leaves_error {i : Instr} {s t : State} (hs : s.rxState = .error) (h : exec i s = .next t)
    (ht : t.rxState ≠ .error) : i = .rxByte stx ∨ i = .reset := by
  obtain ⟨he, _⟩ | hi | ⟨b, rfl⟩ | ⟨cap, rfl⟩ := exec_rxSession h
  · have hst : t.rxState = s.rxState := congrArg (·.2.1) he
    exact absurd (hst.trans hs) ht
  · exact .inr hi
  · by_cases hb : b = stx
    · exact .inl (congrArg _ hb)
    · rw [exec_rxByte_noiseInError hs hb] at h
      cases h; exact absurd hs ht
  · have hnothing : exec (.rxTake cap) s = takeNothing s := execRxTake_nothing (.inl (by simp [hs]))
    rw [hnothing] at h
    cases h; exact absurd hs ht

/-- A byte offered that leaves `Error` is a start marker (20_memory.md R65, 60_exceptions.md R218). -/
theorem offer_leaves_error {b : Byte} {s t : State} (hs : s.rxState = .error) (h : offer b s = .next t)
    (ht : t.rxState ≠ .error) : b = stx := by
  obtain ⟨u, hu, rfl⟩ := offer_next h
  obtain ⟨k, hk⟩ := keep_eq b u
  rw [hk] at ht
  obtain hi | hi := exec_leaves_error hs hu ht <;> cases hi
  rfl

/-- Moving a byte in leaves `Error` only with a start marker, kept from before or in the channel
(20_memory.md R65, 60_exceptions.md R218). -/
theorem moveIn_leaves_error {s t : State} (hs : s.rxState = .error) (h : moveIn s = .next t)
    (ht : t.rxState ≠ .error) :
    s.held = some stx ∨ (s.held = none ∧ s.rxChan = { slot := stx, full := true }) := by
  obtain ⟨b, hh, ho⟩ | ⟨_, _, rfl⟩ | ⟨hh, hf, ho⟩ := moveIn_next h
  · exact .inl (hh.trans (congrArg some (offer_leaves_error hs ho ht)))
  · exact absurd hs ht
  · have hslot : s.rxChan.slot = stx := offer_leaves_error (by exact hs) ho ht
    exact .inr ⟨hh, by rw [← hslot, ← hf]⟩

/-- Moving a byte out runs no command that leaves `Error` (20_memory.md R65). -/
theorem moveOut_keeps_error {s t : State} (hs : s.rxState = .error) (h : moveOut s = .next t) :
    t.rxState = .error := by
  obtain ⟨_, rfl⟩ | ⟨_, u, hu, rfl⟩ := moveOut_next h
  · exact hs
  · obtain ⟨c, hc⟩ := deliver_eq u
    rw [hc]
    by_contra hne
    obtain hi | hi := exec_leaves_error hs hu hne <;> cases hi

/-- The actions that leave `Error`: the words of a start marker and of RESET, the reset input, and moving in a start
marker (60_exceptions.md R218). -/
theorem perform_leaves_error {a : HostAction} {s t : State} (hs : s.rxState = .error) (h : perform a s = .next t)
    (ht : t.rxState ≠ .error) : a = .command 0x3002 ∨ a = .command 0x6000 ∨ a = .resetInput ∨
      (a = .moveIn ∧ (s.held = some stx ∨ (s.held = none ∧ s.rxChan = { slot := stx, full := true }))) := by
  cases a with
  | command w =>
    obtain ⟨i, hd, hi⟩ := issue_next h
    obtain rfl := decode_eq_ok_iff.1 hd
    obtain rfl | rfl := exec_leaves_error hs hi ht
    · exact .inl rfl
    · exact .inr (.inl rfl)
  | writeTx a b => cases h; exact absurd hs ht
  | resetInput => exact .inr (.inr (.inl rfl))
  | moveOut => exact absurd (moveOut_keeps_error hs h) ht
  | moveIn => exact .inr (.inr (.inr ⟨rfl, moveIn_leaves_error hs h ht⟩))
  | link c e =>
    obtain ⟨x, y, hl⟩ := linkState_eq c e s
    cases h
    rw [hl] at ht
    exact absurd hs ht

/-- Settles O30: a start marker resyncs and RESET resets; no other command and no other action leaves `Error`. -/
theorem onlyAStartMarkerOrResetLeavesError : Obligations.OnlyAStartMarkerOrResetLeavesError := by
  refine ⟨fun i s t hs h => ?_, fun s t hs h ht => ?_, fun b s hs hb => ?_⟩
  · have resync (hi : i = .rxByte stx) : t = respond 0x0011 (leaveError s) := by
      rw [hi, exec_rxByte_resync hs] at h
      exact (Host.Outcome.next.inj h).symm
    refine ⟨⟨exec_leaves_error hs h, ?_⟩, resync⟩
    rintro (hi | rfl)
    · rw [resync hi]; simp
    · cases h; simp
  · obtain ⟨_, rfl⟩ | ⟨a, rest, hp, ha⟩ := step_next h
    · exact absurd hs ht
    · exact ⟨a, rest, hp, perform_leaves_error (s := { s with pending := rest }) hs ha ht⟩
  · exact ⟨_, exec_rxByte_length hs (Nat.not_lt.2 hb), rfl, rfl, rfl⟩

end Sys2Proof.Machine

namespace Sys2Proof.Machine

/-! Where a step faults (60_exceptions.md R222), and the step that waits (R229). -/

/-- A command faults exactly as TX_BEGIN above `MAX_PAYLOAD`, or as TX_STEP in the state of 41_transmit.md R125
(60_exceptions.md R222). -/
theorem exec_fault_iff {i : Instr} {s : State} {f : Fault} : exec i s = .fault f ↔
    (∃ len, i = .txBegin len ∧ s.params.maxPayload < len ∧ f = .precondition (encode i)) ∨
      (i = .txStep true ∧ s.txState = .sendData ∧ s.txLen ≤ s.txCursor ∧ f = .invariant (encode i)) := by
  constructor
  · intro h
    obtain ⟨len, rfl, hl, hf⟩ | ⟨rfl, hs, hc, hf⟩ := exec_fault h
    · exact .inl ⟨len, rfl, hl, hf⟩
    · exact .inr ⟨rfl, hs, BitVec.not_lt.1 hc, hf⟩
  · rintro (⟨len, rfl, hl, rfl⟩ | ⟨rfl, hs, hc, rfl⟩)
    · exact exec_txBegin_above hl
    · exact exec_txStep_pastLength hs (BitVec.not_lt.2 hc)

/-- TX_STEP with the gate open faults exactly in the state of 41_transmit.md R125, with its word `0x2001`. -/
theorem exec_txStep_fault_iff {s : State} {f : Fault} : exec (.txStep true) s = .fault f ↔
    s.txState = .sendData ∧ s.txLen.toNat ≤ s.txCursor.toNat ∧ f = .invariant 0x2001 := by
  have hword : encode (.txStep true) = 0x2001 := rfl
  simp [exec_fault_iff, hword, BitVec.le_def]

/-- The words whose command faults: `0x1000 | len` above `MAX_PAYLOAD`, and `0x2001` in the state of R125
(60_exceptions.md R222). -/
theorem encoded_fault_iff {w : Word} {s : State} {f : Fault} : (∃ i, encode i = w ∧ exec i s = .fault f) ↔
    (∃ len : Byte, w = 0x1000 ||| len.setWidth 16 ∧ s.params.maxPayload.toNat < len.toNat ∧ f = .precondition w) ∨
      (w = 0x2001 ∧ s.txState = .sendData ∧ s.txLen.toNat ≤ s.txCursor.toNat ∧ f = .invariant w) := by
  have hword (len : Byte) : encode (.txBegin len) = 0x1000 ||| len.setWidth 16 := packWord_eq_or 0x1 len
  constructor
  · rintro ⟨i, rfl, hf⟩
    obtain ⟨len, rfl, hl, rfl⟩ | ⟨rfl, hs, hc, rfl⟩ := exec_fault_iff.1 hf
    · exact .inl ⟨len, hword len, hl, rfl⟩
    · exact .inr ⟨rfl, hs, hc, rfl⟩
  · rintro (⟨len, rfl, hl, rfl⟩ | ⟨rfl, hs, hc, rfl⟩)
    · exact ⟨.txBegin len, hword len, exec_fault_iff.2 (.inl ⟨len, rfl, hl, by rw [hword]⟩)⟩
    · exact ⟨.txStep true, rfl, exec_txStep_fault_iff.2 ⟨hs, hc, rfl⟩⟩

/-- Issuing a word faults exactly when it spells no command, or its command faults (30_encoding.md R83,
60_exceptions.md R222). -/
theorem issue_fault_iff {w : Word} {s : State} {f : Fault} : issue w s = .fault f ↔
    (IllegalWord w ∧ f = .illegalCmd w) ∨ ∃ i, encode i = w ∧ exec i s = .fault f := by
  simp only [← decode_error_iff, ← decode_eq_ok_iff]
  cases hd : decode w with
  | error e => simp [issue, hd, eq_comm]
  | ok i => simp [issue_of_decode hd]

/-- Moving a byte out faults exactly when the channel is free and its TX_STEP faults (20_memory.md R65). -/
theorem moveOut_fault_iff {s : State} {f : Fault} :
    moveOut s = .fault f ↔ s.txChan.full = false ∧ exec (.txStep true) s = .fault f := by
  cases hf : s.txChan.full with
  | true => simp [moveOut_of_full hf]
  | false => cases hu : exec (.txStep true) s <;> simp [moveOut, hf, hu]

/-- Offering a byte always answers, as RX_BYTE does (42_receive.md R150). -/
theorem offer_answers (b : Byte) (s : State) : ∃ t, offer b s = .next t := by
  obtain ⟨u, hu⟩ := exec_rxByte_answers b s
  exact ⟨keep b u, by simp only [offer, hu]⟩

/-- Moving a byte in always answers (20_memory.md R65). -/
theorem moveIn_answers (s : State) : ∃ t, moveIn s = .next t := by
  cases hh : s.held with
  | some b => rw [moveIn_of_byte (.inl ⟨hh, rfl⟩)]; exact offer_answers b _
  | none =>
    cases hf : s.rxChan.full with
    | false => exact ⟨s, moveIn_of_empty hh hf⟩
    | true => rw [moveIn_of_byte (.inr ⟨hh, by rw [← hf], rfl⟩)]; exact offer_answers s.rxChan.slot _

/-- Of the actions that issue no word only moving a byte out faults (60_exceptions.md R222). -/
theorem perform_fault_iff {a : HostAction} {s : State} {f : Fault} (ha : ∀ w, a ≠ .command w) :
    perform a s = .fault f ↔ a = .moveOut ∧ moveOut s = .fault f := by
  cases a with
  | command w => exact absurd rfl (ha w)
  | moveOut => simp [perform]
  | moveIn =>
    obtain ⟨t, ht⟩ := moveIn_answers s
    simp [perform, ht]
  | writeTx a b | resetInput | link c e => simp [perform]

/-- No command is refused (60_exceptions.md R222). -/
theorem exec_ne_refused (i : Instr) (s : State) (r : Refusal) : exec i s ≠ .refused r := by
  cases i with
  | nop | status | reset => nofun
  | rxByte b => obtain ⟨t, ht⟩ := exec_rxByte_answers b s; simp [ht]
  | rxTake cap => obtain ⟨t, ht⟩ := exec_rxTake_answers cap s; simp [ht]
  | txBegin len =>
    simp only [exec, execTxBegin]
    repeat' split
    all_goals nofun
  | txStep g =>
    simp only [exec, execTxStep, produce, produceNothing]
    repeat' split
    all_goals nofun

/-- No action of the host or of the environment is refused (60_exceptions.md R222). -/
theorem perform_ne_refused (a : HostAction) (s : State) (r : Refusal) : perform a s ≠ .refused r := by
  cases a with
  | command w =>
    cases hd : decode w with
    | ok i => simpa only [perform, issue_of_decode hd] using exec_ne_refused i s r
    | error e => simp [perform, issue, hd]
  | moveOut =>
    cases hf : s.txChan.full with
    | true => simp [perform, moveOut_of_full hf]
    | false =>
      cases hu : exec (.txStep true) s with
      | next u => simp [perform, moveOut_of_free hf hu]
      | fault f => simp [perform, moveOut_fault_iff.2 ⟨hf, hu⟩]
      | refused r' => exact absurd hu (exec_ne_refused _ s r')
  | moveIn =>
    obtain ⟨t, ht⟩ := moveIn_answers s
    simp [perform, ht]
  | writeTx a b | resetInput | link c e => nofun

/-- Settles O6: a step takes the oldest pending action, and there is none. -/
theorem stepWithNothingPendingWaits : Obligations.StepWithNothingPendingWaits := by
  intro s hp
  simp only [step, stepPending, hp]

/-- Settles O35: a step faults as its command, its word or its move out does, and nothing is refused. -/
theorem commandsFaultExactlyAsListed : Obligations.CommandsFaultExactlyAsListed := by
  refine ⟨fun i s f => exec_fault_iff, fun s w rest f hp => ?_, fun s f hp => ?_, fun s r =>
    ⟨fun i => exec_ne_refused i s r, ?_⟩⟩
  · rw [step_command hp, issue_fault_iff, encoded_fault_iff]
  · cases hq : s.pending with
    | nil => simp [stepWithNothingPendingWaits s hq]
    | cons a rest =>
      have ha (w : Word) : a ≠ .command w := fun h => hp w rest (h ▸ hq)
      have hhead : (∃ rest', a :: rest = .moveOut :: rest') ↔ a = .moveOut := by simp
      rw [step_of_pending hq, perform_fault_iff ha, moveOut_fault_iff, exec_txStep_fault_iff, hhead]
  · cases hq : s.pending with
    | nil => simp [stepWithNothingPendingWaits s hq]
    | cons a rest => rw [step_of_pending hq]; exact perform_ne_refused a _ r

end Sys2Proof.Machine

namespace Sys2Proof.Machine

/-! The block's reset (70_reset_and_hazards.md R240): by power-on, by RESET and by the reset input. Besides the
registers it changes only RXBUF and the count of resets (log 4). -/

/-- RESET performs the block's reset and answers `0x0000` (43_collect_control.md R193). -/
theorem exec_reset (s : State) : exec .reset s = .next (respond 0x0000 (resetBlock s)) := rfl

/-- STATUS answers the STATUS word (43_collect_control.md R191). -/
theorem exec_status (s : State) : exec .status s = .next (respond (statusWord s) s) := rfl

/-- The reset input performs the block's reset and answers nothing (70_reset_and_hazards.md R240). -/
theorem step_resetInput {s : State} {rest : List HostAction} (h : s.pending = .resetInput :: rest) :
    step s = .next (resetBlock { s with pending := rest }) :=
  step_of_pending h

/-- The STATUS word depends on the two session states and `last_error` only (43_collect_control.md R191). -/
theorem statusWord_congr {s t : State} (htx : s.txState = t.txState) (hrx : s.rxState = t.rxState)
    (he : s.lastError = t.lastError) : statusWord s = statusWord t := by
  simp only [statusWord, htx, hrx, he]

/-- The STATUS word of a block just reset, whatever answers were recorded (43_collect_control.md R191). -/
theorem statusWord_respond_resetBlock (w : Word) (s : State) : statusWord (respond w (resetBlock s)) = 0x0008 :=
  calc statusWord (respond w (resetBlock s))
    _ = statusWord State.reset := statusWord_congr rfl rfl rfl
    _ = 0x0008 := by decide

/-- STATUS right after RESET answers `0x0008` (43_collect_control.md R193). -/
theorem execAll_reset_status (s : State) :
    execAll [.reset, .status] s = .next (respond 0x0008 (respond 0x0000 (resetBlock s))) := by
  rw [execAll_cons (exec_reset s), execAll_cons (exec_status _), statusWord_respond_resetBlock]
  rfl

/-- Settles O9: the power-on state is a literal, and RESET and the reset input both perform the block's reset,
whose RXBUF and count of resets are the two values the statement leaves free. -/
theorem resetGivesEveryRegisterItsValue : Obligations.ResetGivesEveryRegisterItsValue := by
  have hword : encode .reset = 0x6000 := rfl
  refine ⟨hword, ⟨State.reset.rxbuf, State.reset.draws, rfl⟩, fun s => ⟨_, execAll_reset_status s, rfl⟩,
    fun s rest => ⟨(resetBlock s).rxbuf, (resetBlock s).draws, ?command, ?input⟩⟩
  case command => exact exec_reset s
  case input => exact fun hp => step_resetInput hp

end Sys2Proof.Machine
